-- ==== Sys2Proof/Word.lean ====
section
/-! DEFINITION. The word types of the block (spec/00_scope.md R9, R11; spec/30_encoding.md R80). -/

namespace Sys2Proof

/-- A `u8` (R9): port data, register contents, one byte of memory or of a sector. -/
abbrev Byte := BitVec 8

/-- A 16-bit port number as the CPU core presents it (R11, R33). -/
abbrev Port := BitVec 16

/-- A 16-bit memory address (R34). -/
abbrev Addr := BitVec 16

/-- The 25-bit transaction word `dir ++ port ++ data` (R80). -/
abbrev TWord := BitVec 25

end Sys2Proof
end

