-- ==== Sys2Proof/Syntax.lean ====
section
/-! DEFINITION. The instructions: one constructor per row of spec/opcode_table.json (spec/30_encoding.md R85).
An operand is a part of the transaction word that the instruction's rule uses or names; the bits the decoder
ignores (the high port byte of a mapped port, the data bits of a read; R80, R82) are no operands. -/

namespace Sys2Proof

inductive Instr where
  /-- `CONST`, `IN 0x00`: console status read (R120) -/
  | const
  /-- `CONIN`, `IN 0x01`: console input read (R121) -/
  | conin
  /-- `CONOUT v`, `OUT 0x02, v`: console output write (R122) -/
  | conout (v : Byte)
  /-- `SETTRK v`, `OUT 0x10, v` (R130) -/
  | settrk (v : Byte)
  /-- `SETSEC v`, `OUT 0x11, v` (R131) -/
  | setsec (v : Byte)
  /-- `SETDMAL v`, `OUT 0x12, v` (R132) -/
  | setdmal (v : Byte)
  /-- `SETDMAH v`, `OUT 0x13, v` (R133) -/
  | setdmah (v : Byte)
  /-- `DSKRD`, `OUT 0x14, 0x01`: read a sector into memory (R145) -/
  | dskrd
  /-- `DSKWR`, `OUT 0x14, 0x02`: write a sector from memory (R146) -/
  | dskwr
  /-- `DSKINV v`, `OUT 0x14, v` with `v` neither 0x01 nor 0x02 (R147) -/
  | dskinv (v : Byte)
  /-- `DSKSTAT`, `IN 0x15`: disk status read (R160) -/
  | dskstat
  /-- `DSKCNT`, `IN 0x16`: drive-count read (R161) -/
  | dskcnt
  /-- `SETDRV v`, `OUT 0x17, v` (R134) -/
  | setdrv (v : Byte)
  /-- `CTLSAVE`, `OUT 0xE0, 0x53`: save all (R171) -/
  | ctlsave
  /-- `CTLQUIT`, `OUT 0xE0, 0x51`: request shutdown (R172) -/
  | ctlquit
  /-- `CTLNOP v`, `OUT 0xE0, v` with `v` neither 0x53 nor 0x51 (R173) -/
  | ctlnop (v : Byte)
  /-- `INUNMAP p`, `IN p` at an address no row decodes for reads (R111, R113) -/
  | inunmap (p : Port)
  /-- `OUTUNMAP p v`, `OUT p, v` at an address no row decodes for writes (R112, R113) -/
  | outunmap (p : Port) (v : Byte)
  deriving DecidableEq, Repr

/-- The instruction is a read transaction (format `IN`, R81): it returns a byte to the CPU core. -/
def Instr.isRead : Instr → Bool
  | .const | .conin | .dskstat | .dskcnt | .inunmap _ => true
  | .conout _ | .settrk _ | .setsec _ | .setdmal _ | .setdmah _ | .dskrd | .dskwr | .dskinv _ | .setdrv _
  | .ctlsave | .ctlquit | .ctlnop _ | .outunmap _ _ => false

/-- The instruction is an operation write, a write to port 0x14 (R140). -/
def Instr.isOperation : Instr → Bool
  | .dskrd | .dskwr | .dskinv _ => true
  | .const | .conin | .conout _ | .settrk _ | .setsec _ | .setdmal _ | .setdmah _ | .dskstat | .dskcnt | .setdrv _
  | .ctlsave | .ctlquit | .ctlnop _ | .inunmap _ | .outunmap _ _ => false

end Sys2Proof
end

