-- ==== Sys2Proof/Decode.lean ====
section
/-! DEFINITION. The transaction word and its fields (spec/30_encoding.md R80), the decoder (R82; spec/40_port_decoder.md
R110), the encoder (R85, R90) and the opcode table with its most-specific-mask selection (R83). -/

namespace Sys2Proof

/-! ## Fields of the transaction word (R80) -/

/-- `W[24]`: true for a write (`OUT`). -/
def TWord.isWrite (w : TWord) : Bool := w.getLsbD 24

/-- `W[23:8]`: the 16-bit port number. -/
def TWord.port (w : TWord) : Port := w.extractLsb' 8 16

/-- `W[7:0]`: the data byte of a write. -/
def TWord.data (w : TWord) : Byte := w.extractLsb' 0 8

/-- `lo8(p) = p[7:0]`, the only part of the port number the decoder looks at (R11, R82). -/
def lo8 (p : Port) : Byte := p.extractLsb' 0 8

/-- The word of `IN p`, with the data bits 0 (the canonical form of R80). -/
def inWord (p : Port) : TWord := 0#1 ++ p ++ 0#8

/-- The word of `OUT p, v`. -/
def outWord (p : Port) (v : Byte) : TWord := 1#1 ++ p ++ v

/-- The canonical number of a mapped port: high byte 0 (R90). -/
def canonicalPort (lo : Byte) : Port := 0#8 ++ lo

/-! ## Command opcodes -/

/-- `READ = 0x01` (R14). -/
def opRead : Byte := 0x01#8

/-- `WRITE = 0x02` (R14). -/
def opWrite : Byte := 0x02#8

/-- `'S' = 0x53` (R170). PRESUMED: the ASCII code (log entry 14). -/
def opSave : Byte := 0x53#8

/-- `'Q' = 0x51` (R170). PRESUMED: the ASCII code (log entry 14). -/
def opQuit : Byte := 0x51#8

/-! ## The decoder -/

/-- The read half of the port map (R84, R110): any address without an "in" row is unmapped for reads (R111, R113). -/
def decodeIn (p : Port) : Instr :=
  if lo8 p = 0x00#8 then .const
  else if lo8 p = 0x01#8 then .conin
  else if lo8 p = 0x15#8 then .dskstat
  else if lo8 p = 0x16#8 then .dskcnt
  else .inunmap p

/-- The opcodes of the operation port 0x14 (R28, R145 to R147). -/
def decodeOperation (v : Byte) : Instr :=
  if v = opRead then .dskrd else if v = opWrite then .dskwr else .dskinv v

/-- The opcodes of the control port 0xE0 (R30, R170 to R173). -/
def decodeControl (v : Byte) : Instr :=
  if v = opSave then .ctlsave else if v = opQuit then .ctlquit else .ctlnop v

/-- The write half of the port map (R84, R110): any address without an "out" row is unmapped for writes (R112, R113). -/
def decodeOut (p : Port) (v : Byte) : Instr :=
  if lo8 p = 0x02#8 then .conout v
  else if lo8 p = 0x10#8 then .settrk v
  else if lo8 p = 0x11#8 then .setsec v
  else if lo8 p = 0x12#8 then .setdmal v
  else if lo8 p = 0x13#8 then .setdmah v
  else if lo8 p = 0x14#8 then decodeOperation v
  else if lo8 p = 0x17#8 then .setdrv v
  else if lo8 p = 0xE0#8 then decodeControl v
  else .outunmap p v

/-- The decoder: total on the 2^25 transaction words (R83). -/
def decode (w : TWord) : Instr :=
  if w.isWrite then decodeOut w.port w.data else decodeIn w.port

/-- Why bits are not decoded. -/
inductive DecodeError where
  /-- the bits do not fit a transaction word: every transaction has the one length of 25 bits (R80) -/
  | notATransactionWord (bits : Nat)
  deriving DecidableEq, Repr

/-- Decode bits of any number, bit 0 the least significant bit of `W`; what is no transaction word is rejected by name. -/
def decodeBits (bits : Nat) : Except DecodeError Instr :=
  if bits < 2 ^ 25 then .ok (decode (BitVec.ofNat 25 bits)) else .error (.notATransactionWord bits)

/-- The instruction the decoder reads from a table word: the low `nbits` bits of `w`, every higher bit 0. -/
def decodeTableWord (nbits w : Nat) : Option Instr :=
  match decodeBits (w % 2 ^ nbits) with
  | .ok i => some i
  | .error _ => none

/-! ## The encoder -/

/-- The word of a well-formed instruction (R85), at the canonical port where the port is fixed (R90). -/
def encode : Instr → TWord
  | .const        => inWord (canonicalPort 0x00#8)
  | .conin        => inWord (canonicalPort 0x01#8)
  | .conout v     => outWord (canonicalPort 0x02#8) v
  | .settrk v     => outWord (canonicalPort 0x10#8) v
  | .setsec v     => outWord (canonicalPort 0x11#8) v
  | .setdmal v    => outWord (canonicalPort 0x12#8) v
  | .setdmah v    => outWord (canonicalPort 0x13#8) v
  | .dskrd        => outWord (canonicalPort 0x14#8) opRead
  | .dskwr        => outWord (canonicalPort 0x14#8) opWrite
  | .dskinv v     => outWord (canonicalPort 0x14#8) v
  | .dskstat      => inWord (canonicalPort 0x15#8)
  | .dskcnt       => inWord (canonicalPort 0x16#8)
  | .setdrv v     => outWord (canonicalPort 0x17#8) v
  | .ctlsave      => outWord (canonicalPort 0xE0#8) opSave
  | .ctlquit      => outWord (canonicalPort 0xE0#8) opQuit
  | .ctlnop v     => outWord (canonicalPort 0xE0#8) v
  | .inunmap p    => inWord p
  | .outunmap p v => outWord p v

/-! ## The opcode table (R83, R85) -/

/-- A row of spec/opcode_table.json: it matches `W` when `(W AND mask) = value`. -/
structure TableRow where
  mnemonic : String
  value    : TWord
  mask     : TWord
  deriving DecidableEq, Repr

/-- The eighteen rows of R85, in the table's order. -/
def opcodeTable : List TableRow :=
  [⟨"CONST",    0x0000000#25, 0x100FF00#25⟩, ⟨"CONIN",    0x0000100#25, 0x100FF00#25⟩,
   ⟨"CONOUT",   0x1000200#25, 0x100FF00#25⟩, ⟨"SETTRK",   0x1001000#25, 0x100FF00#25⟩,
   ⟨"SETSEC",   0x1001100#25, 0x100FF00#25⟩, ⟨"SETDMAL",  0x1001200#25, 0x100FF00#25⟩,
   ⟨"SETDMAH",  0x1001300#25, 0x100FF00#25⟩, ⟨"DSKRD",    0x1001401#25, 0x100FFFF#25⟩,
   ⟨"DSKWR",    0x1001402#25, 0x100FFFF#25⟩, ⟨"DSKINV",   0x1001400#25, 0x100FF00#25⟩,
   ⟨"DSKSTAT",  0x0001500#25, 0x100FF00#25⟩, ⟨"DSKCNT",   0x0001600#25, 0x100FF00#25⟩,
   ⟨"SETDRV",   0x1001700#25, 0x100FF00#25⟩, ⟨"CTLSAVE",  0x100E053#25, 0x100FFFF#25⟩,
   ⟨"CTLQUIT",  0x100E051#25, 0x100FFFF#25⟩, ⟨"CTLNOP",   0x100E000#25, 0x100FF00#25⟩,
   ⟨"INUNMAP",  0x0000000#25, 0x1000000#25⟩, ⟨"OUTUNMAP", 0x1000000#25, 0x1000000#25⟩]

/-- The row matches the word (R83). -/
def TableRow.matchesWord (r : TableRow) (w : TWord) : Bool := w &&& r.mask == r.value

/-- The row's priority: the number of 1 bits of its mask (R83). -/
def TableRow.priority (r : TableRow) : Nat := (List.range 25).countP (fun k => r.mask.getLsbD k)

/-- The rows that match a word (R83). -/
def matchingRows (w : TWord) : List TableRow := opcodeTable.filter fun r => r.matchesWord w

/-- Of some rows, those with the most mask bits (R83). -/
def mostSpecific (rows : List TableRow) : List TableRow :=
  rows.filter fun r => rows.all fun q => decide (q.priority ≤ r.priority)

/-- The rows R83 selects for a word. -/
def selectedRows (w : TWord) : List TableRow := mostSpecific (matchingRows w)

/-- The table's name of an instruction (R85). -/
def Instr.mnemonic : Instr → String
  | .const        => "CONST"
  | .conin        => "CONIN"
  | .conout _     => "CONOUT"
  | .settrk _     => "SETTRK"
  | .setsec _     => "SETSEC"
  | .setdmal _    => "SETDMAL"
  | .setdmah _    => "SETDMAH"
  | .dskrd        => "DSKRD"
  | .dskwr        => "DSKWR"
  | .dskinv _     => "DSKINV"
  | .dskstat      => "DSKSTAT"
  | .dskcnt       => "DSKCNT"
  | .setdrv _     => "SETDRV"
  | .ctlsave      => "CTLSAVE"
  | .ctlquit      => "CTLQUIT"
  | .ctlnop _     => "CTLNOP"
  | .inunmap _    => "INUNMAP"
  | .outunmap _ _ => "OUTUNMAP"

end Sys2Proof
end

