-- ==== Sys2Proof/Config.lean ====
section
/-! DEFINITION. What the spec leaves to the implementation or to a collaborator (spec/00_scope.md R8): the
shape of the outside's answers, and the free values. None of the constants has a body, so no proof can see what it is. -/

namespace Sys2Proof

/-- Whether the machine goes on through a save of both stores or stops between the two saves ("not guaranteed atomic
across the two stores", spec/45_control_port.md R171; spec/93_implementation_defined.md U6; log entry 15). -/
inductive SaveStop where
  /-- it goes on -/
  | goesOn
  /-- it stops after the primary's save, before the secondary is asked -/
  | beforeQuery
  /-- it stops after the secondary was asked and is available, before its save -/
  | beforeSecondSave
  deriving DecidableEq, Repr, Inhabited

/-- What the outside (the collaborators of R12) answers during ONE step, as plain data. A step makes at most one
call of each kind, so one record is enough. Nothing constrains the fields beyond what the operation that reads
them says (log entry 4). -/
structure Answers where
  /-- the characters the console device has received since the step before (R120) -/
  chars     : List Byte
  /-- `CONIN_EMPTY` (R8, R121): `none`, an empty console holds the bus master; `some b`, it returns `b` at once -/
  emptyGet  : Option Byte
  /-- the memory collaborator's answer to a DMA request, before the no-wrap rule of R55 -/
  grant     : Bool
  /-- the success flag of a store's `Read` of a sector whose contents the round trip law does not fix, at an index the store
  does not reject (R57, R60) -/
  readOk    : Bool
  /-- the bytes such a `Read` puts over the window, from its first byte on (R57) -/
  readData  : List Byte
  /-- the success flag of a store's `Write` at an index it does not reject (R60) -/
  writeOk   : Bool
  /-- `Store[1].Available()` asked now (R171) -/
  available : Bool
  /-- whether the machine stops between two saves (R171) -/
  saveStop  : SaveStop
  deriving DecidableEq, Repr, Inhabited

/-- FREE VALUE (log entry 4). The outside's answers in the step with that number, where State lists none. -/
opaque Config.freeAnswers : Nat → Answers

/-- FREE VALUE (log entry 2). `SECTOR_SIZE - 1`. -/
opaque Config.sectorSizeLessOne : BitVec 16

/-- FREE VALUE (log entry 2). `SECTORS_PER_TRACK - 1`. -/
opaque Config.sectorsPerTrackLessOne : Nat

/-- FREE VALUE (log entry 3). `Store[1].Available()` at reset (R200). -/
opaque Config.secondaryAvailable : Bool

/-- FREE VALUE (log entry 28). The linear indices the primary store rejects (R60 b, R61). -/
opaque Config.primaryRejects : List Nat

/-- FREE VALUE (log entry 28). The linear indices the secondary store rejects. -/
opaque Config.secondaryRejects : List Nat

/-- `SECTOR_SIZE`, any number from 1 to 65536 (R8, D6). -/
def Config.sectorSize : Nat := Config.sectorSizeLessOne.toNat + 1

/-- `SECTORS_PER_TRACK`, any number from 1 on (R8, D6). -/
def Config.sectorsPerTrack : Nat := Config.sectorsPerTrackLessOne + 1

end Sys2Proof
end

