-- ==== Sys2Proof/Machine/State.lean ====
section
/-! DEFINITION. The machine's state as plain data: the block's registers (spec/10_state.md R20), the parameters and the
collaborators' state the step reads (spec/00_scope.md R7; spec/10_state.md R37), the bus, and the events (R13); reset
(spec/70_reset_and_hazards.md R200). -/

namespace Sys2Proof.Machine

/-- The two backing stores: drive number 0 is the primary, 1 the secondary (R36, R141). -/
inductive Drive where
  | primary
  | secondary
  deriving DecidableEq, Repr

/-- `DRVCNT`: 1 or 2, no other value occurs (R27). -/
inductive DriveCount where
  | one
  | two
  deriving DecidableEq, Repr

/-- The block's whole state (R20): the five writable registers, the status latch and the drive count. -/
structure Regs where
  /-- `TRACK` (R21) -/
  track  : Byte
  /-- `SECTOR` (R22) -/
  sector : Byte
  /-- `DMALO`, the low byte of the DMA address (R23) -/
  dmalo  : Byte
  /-- `DMAHI`, the high byte of the DMA address (R23) -/
  dmahi  : Byte
  /-- `DRVSEL`, unsigned, not clamped (R24; log entry 11) -/
  drvsel : Byte
  /-- `LASTOK`, the status latch (R26) -/
  lastok : Bool
  /-- `DRVCNT` (R27) -/
  drvcnt : DriveCount
  deriving DecidableEq, Repr

/-- The two numbers shared with the storage collaborator (R8; log entry 2). -/
structure Geometry where
  /-- `SECTOR_SIZE`, bytes in a sector -/
  sectorSize      : Nat
  /-- `SECTORS_PER_TRACK` -/
  sectorsPerTrack : Nat
  deriving DecidableEq, Repr

/-- The 64 KiB memory the DMA window lies in (R34): the bytes that differ from what an unlisted address reads as,
by rising address (`Memory.wf`). -/
abbrev Memory := List Host.Cell

/-- A backing store, as far as the spec fixes it (R60, R61; log entry 6). -/
structure Store where
  /-- the linear indices the store rejects: reads and writes there both fail (R60 b, R61; log entry 28). No call changes them -/
  rejects : List Nat
  /-- by rising linear index, the sectors whose contents the round trip law fixes; of any other sector the contents
  and the answers are open -/
  sectors : List (Nat × List Byte)
  /-- a `Write` call has been made since the last `Save()` call (R37; log entry 15) -/
  unsaved : Bool
  deriving DecidableEq, Repr

/-- A collaborator call the block made (R13). -/
inductive Event where
  | conStatus (r : Bool)
  | conGet    (b : Byte)
  | conPut    (b : Byte)
  | dmaReq    (a : Addr) (n : Nat) (g : Bool)
  | stoRead   (d : Drive) (idx : Nat) (ok : Bool)
  | stoWrite  (d : Drive) (idx : Nat) (data : List Byte) (ok : Bool)
  | stoAvail  (d : Drive) (r : Bool)
  | stoSave   (d : Drive)
  | shutdown
  deriving DecidableEq, Repr

/-- What the CPU core, the single bus master (R7), does next as far as the block can tell. -/
inductive CpuAction where
  /-- it presents a transaction -/
  | bus   (w : TWord)
  /-- it stores a byte into the memory it shares with the block (R34); the block is not involved (log entry 25) -/
  | store (a : Addr) (b : Byte)
  deriving DecidableEq, Repr

/-- The state of the block, its parameters and its collaborators. -/
structure State where
  /-- the registers of the block (R20) -/
  regs      : Regs
  /-- the parameters of the block (R8) -/
  geom      : Geometry
  /-- the memory (R34) -/
  mem       : Memory
  /-- `Store[0]` (R60) -/
  primary   : Store
  /-- `Store[1]` (R60) -/
  secondary : Store
  /-- the characters the console collaborator has buffered, oldest first (R37, R120) -/
  console   : List Byte
  /-- the system collaborator has been asked to shut down (R37, R172; log entry 16) -/
  shutdownRequested : Bool
  /-- the CPU core's coming actions, next first (R7; log entry 9) -/
  pending   : List CpuAction
  /-- what the last completed transaction returned to the CPU core: a byte for a read, nothing for a write (R7, R11) -/
  result    : Option Byte
  /-- every collaborator call so far, first call first (R13) -/
  events    : List Event
  /-- what the outside answers during the current step (log entry 4) -/
  now       : Answers
  /-- what the outside will answer in the steps to come, next step first (log entry 4) -/
  later     : List Answers
  /-- how many steps have been given their answers: numbers the free ones (log entry 4) -/
  draws     : Nat
  /-- the machine has stopped between two saves and goes on no more (R171; log entry 15) -/
  stopped   : Bool
  deriving DecidableEq, Repr

/-- Why the machine stops with a fault: for no reason at all. "No exceptions/panics are used" and the block raises
nothing to the CPU core (spec/60_exceptions.md R180; log entry 24). -/
inductive Fault where
  deriving DecidableEq, Repr

/-- Why an instruction has no meaning here. -/
inductive Refusal where
  /-- raised by an arm of `exec` whose instruction is not modelled yet: safe, and raised by no arm of this model -/
  | notModelled (mnemonic : String)
  deriving DecidableEq, Repr

/-- What reset finds: the `RESET_` values (R200, R201), the answer of `Store[1].Available()`, the parameters of R8
and the collaborators' state, which reset does not touch (R202). -/
structure ResetInputs where
  track     : Byte
  sector    : Byte
  dmalo     : Byte
  dmahi     : Byte
  drvsel    : Byte
  lastok    : Bool
  available : Bool
  geom      : Geometry
  mem       : Memory
  primary   : Store
  secondary : Store
  console   : List Byte
  shutdownRequested : Bool
  deriving DecidableEq, Repr

/-- Reset (R200) from any inputs: the one query of the secondary store fixes the drive count, the six registers take
their `RESET_` values, and nothing else is touched (R202). No transaction is presented yet (log entry 9). -/
def State.resetWith (r : ResetInputs) : State where
  regs      := { track := r.track, sector := r.sector, dmalo := r.dmalo, dmahi := r.dmahi, drvsel := r.drvsel,
                 lastok := r.lastok, drvcnt := if r.available then .two else .one }
  geom      := r.geom
  mem       := r.mem
  primary   := r.primary
  secondary := r.secondary
  console   := r.console
  shutdownRequested := r.shutdownRequested
  pending   := []
  result    := none
  events    := [.stoAvail .secondary r.available]
  now       := Config.freeAnswers 0
  later     := []
  draws     := 1
  stopped   := false

/-- The inputs of `State.reset`: DESIGN CHOICE zero for the six registers the spec gives no reset value (log entry 1)
and empty collaborators (log entry 27); free values for the parameters, the availability and the rejected indices (log
entries 2, 3, 28). -/
def ResetInputs.chosen : ResetInputs where
  track     := 0x00#8
  sector    := 0x00#8
  dmalo     := 0x00#8
  dmahi     := 0x00#8
  drvsel    := 0x00#8
  lastok    := false
  available := Config.secondaryAvailable
  geom      := { sectorSize := Config.sectorSize, sectorsPerTrack := Config.sectorsPerTrack }
  mem       := []
  primary   := { rejects := Config.primaryRejects, sectors := [], unsaved := false }
  secondary := { rejects := Config.secondaryRejects, sectors := [], unsaved := false }
  console   := []
  shutdownRequested := false

/-- The machine right after reset. -/
def State.reset : State := State.resetWith ResetInputs.chosen

end Sys2Proof.Machine
end

