-- ==== Sys2Proof/Machine/Ops.lean ====
section
/-! DEFINITION. The named operations over the state: sorted tables, memory (spec/20_memory.md R51, R58), the stores'
place in the state, events and the end of a transaction, and what happens outside before a step. -/

namespace Sys2Proof.Machine

/-! ## Tables sorted by a number -/

/-- The entry of a key. -/
def tableGet {α : Type} : List (Nat × α) → Nat → Option α
  | [], _ => none
  | c :: t, k => if c.1 = k then some c.2 else tableGet t k

/-- Set the entry of a key, keeping the keys rising. -/
def tablePut {α : Type} : List (Nat × α) → Nat → α → List (Nat × α)
  | [], k, x => [(k, x)]
  | c :: t, k, x =>
    if k < c.1 then (k, x) :: c :: t
    else if c.1 = k then (k, x) :: t
    else c :: tablePut t k x

/-- Remove the entry of a key. -/
def tableErase {α : Type} (t : List (Nat × α)) (k : Nat) : List (Nat × α) := t.filter fun c => c.1 != k

/-- The keys rise strictly. -/
abbrev tableSorted {α : Type} (t : List (Nat × α)) : Prop := t.Pairwise fun c e => c.1 < e.1

/-! ## Memory -/

/-- What an unlisted address reads as. DESIGN CHOICE (log entry 8). -/
def unlistedByte : Byte := 0x00#8

/-- The canonical form: addresses strictly rising and inside the 16-bit space, no entry an unlisted address has anyway. -/
abbrev Memory.wf (m : Memory) : Prop := tableSorted m ∧ ∀ c ∈ m, c.1 < 65536 ∧ c.2 ≠ unlistedByte

/-- Read one byte. -/
def Memory.read (m : Memory) (a : Nat) : Byte := (tableGet m a).getD unlistedByte

/-- Write one byte. -/
def Memory.write (m : Memory) (a : Nat) (b : Byte) : Memory :=
  if b = unlistedByte then tableErase m a else tablePut m a b

/-- `MemRead(a, n)`: the `n` bytes at `a` to `a + n - 1`, the byte at `a` first (R12, R51, R58). -/
def memRead (m : Memory) (a n : Nat) : List Byte := (List.range n).map fun k => Memory.read m (a + k)

/-- `MemWrite(a, n, v)`: the bytes of `v` at `a`, `a + 1`, and so on (R12, R51, R58). -/
def memWrite (m : Memory) (a : Nat) : List Byte → Memory
  | [] => m
  | b :: v => memWrite (Memory.write m a b) (a + 1) v

/-! ## Parts of the state -/

/-- `Store[d]`. -/
def State.store (s : State) : Drive → Store
  | .primary => s.primary
  | .secondary => s.secondary

/-- Replace `Store[d]`. -/
def State.setStore (s : State) (d : Drive) (st : Store) : State :=
  match d with
  | .primary => { s with primary := st }
  | .secondary => { s with secondary := st }

/-- `x[TRACK] <- v` (R10). -/
def State.setTrack (s : State) (v : Byte) : State := { s with regs := { s.regs with track := v } }

/-- `x[SECTOR] <- v` (R10). -/
def State.setSector (s : State) (v : Byte) : State := { s with regs := { s.regs with sector := v } }

/-- `x[DMALO] <- v` (R10): the other half of the address is untouched (R23). -/
def State.setDmalo (s : State) (v : Byte) : State := { s with regs := { s.regs with dmalo := v } }

/-- `x[DMAHI] <- v` (R10): the other half of the address is untouched (R23). -/
def State.setDmahi (s : State) (v : Byte) : State := { s with regs := { s.regs with dmahi := v } }

/-- `x[DRVSEL] <- v` (R10): not clamped (R24). -/
def State.setDrvsel (s : State) (v : Byte) : State := { s with regs := { s.regs with drvsel := v } }

/-- `x[LASTOK] <- ok` (R10). -/
def State.setLastok (s : State) (ok : Bool) : State := { s with regs := { s.regs with lastok := ok } }

/-- Replace the memory. -/
def State.setMem (s : State) (m : Memory) : State := { s with mem := m }

/-- Record a collaborator call (R13). -/
def State.emit (s : State) (e : Event) : State := { s with events := s.events ++ [e] }

/-- The transaction is complete: it has returned `r` and the CPU core goes on to its next action (R7, R64). -/
def State.complete (s : State) (r : Option Byte) : State := { s with result := r, pending := s.pending.tail }

/-- A write returns nothing (R11). -/
def State.completeWrite (s : State) : State := s.complete none

/-- A read returns one byte (R11). -/
def State.completeRead (s : State) (b : Byte) : State := s.complete (some b)

/-- The transaction is not complete: the bus master is held in it and presents it again in the next step (R187;
log entry 12). -/
def State.hold (s : State) : State := s

/-- The machine stops here, in the middle of the transaction, and goes on no more (R171; log entry 15). -/
def State.stop (s : State) : State := { s with stopped := true }

/-! ## Outside the block -/

/-- The answers to the coming step: the next listed ones, else free ones (log entry 4). -/
def State.nextAnswers (s : State) : Answers :=
  match s.later with
  | [] => Config.freeAnswers s.draws
  | a :: _ => a

/-- What lands between two steps: the outside's answers are fixed for the coming step, and the characters the console
device has received are in its buffer (R120; log entries 4, 13). -/
def State.land (s : State) : State :=
  { s with now := s.nextAnswers, later := s.later.tail, draws := s.draws + 1, console := s.console ++ s.nextAnswers.chars }

/-- The CPU core's own store into the shared memory, as its next action (R34; log entry 25). -/
def State.cpuStore (s : State) (a : Addr) (b : Byte) : State :=
  { s with mem := Memory.write s.mem a.toNat b, pending := s.pending.tail }

end Sys2Proof.Machine
end

