-- ==== Sys2Proof/Machine/Operands.lean ====
section
/-! DEFINITION. The operands an operation write assembles from the registers (spec/30_encoding.md R86;
spec/43_disk_operation.md R141 to R143, R150). -/

namespace Sys2Proof.Machine

/-- The number `DRVCNT` holds (R27). -/
def DriveCount.value : DriveCount → Nat
  | .one => 1
  | .two => 2

/-- The number of a drive: 0 the primary, 1 the secondary (R36). -/
def Drive.number : Drive → Nat
  | .primary => 0
  | .secondary => 1

/-- `DMA = x[DMAHI] ++ x[DMALO]` (R23, R50). -/
def Regs.dma (r : Regs) : Addr := r.dmahi ++ r.dmalo

/-- Step 2 of the operation (R141): `DRVSEL` is compared unsigned with `DRVCNT`; a valid one selects its store. -/
def Regs.selectedDrive (r : Regs) : Option Drive :=
  if r.drvcnt.value ≤ r.drvsel.toNat then none
  else if r.drvsel = 0x00#8 then some .primary
  else some .secondary

/-- Step 4 of the operation (R143): `SECTORS_PER_TRACK * TRACK + SECTOR` on natural numbers, no wrap (log entry 17). -/
def State.sectorIndex (s : State) : Nat := s.geom.sectorsPerTrack * s.regs.track.toNat + s.regs.sector.toNat

end Sys2Proof.Machine
end

