-- ==== Sys2Proof/Machine/Collaborators.lean ====
section
/-! DEFINITION. The calls the block makes on its collaborators (spec/00_scope.md R12), each with its event (R13) and with the
freedom the spec leaves the collaborator. -/

namespace Sys2Proof.Machine

/-! ## The memory collaborator -/

/-- `Mem.Grant(a, n)`: the collaborator's free answer, but a granted window never passes the end of memory (R55). -/
def State.granted (s : State) (a : Addr) (n : Nat) : Bool := s.now.grant && decide (a.toNat + n ≤ 65536)

/-! ## The backing stores -/

/-- What a window holds after a store has put `data` over it from its first byte on: never more bytes than the window
has, and bytes the store did not put are the old ones (R57; log entry 7). -/
def overWindow (old data : List Byte) : List Byte := data.take old.length ++ old.drop data.length

/-- The store does not reject the index (R60 b, R61; log entry 28). -/
def Store.accepts (st : Store) (idx : Nat) : Bool := !st.rejects.contains idx

/-- `Store[d].Read(idx, old)` (R57): at an index the store rejects it fails and the window's bytes are open; a sector the round
trip law fixes is returned (R61); of any other sector both the success flag and the window's bytes are open (R60; log entry 6). -/
def Store.read (st : Store) (ans : Answers) (idx : Nat) (old : List Byte) : Bool × List Byte :=
  if st.accepts idx then
    match tableGet st.sectors idx with
    | some sec => (true, overWindow old sec)
    | none => (ans.readOk, overWindow old ans.readData)
  else (false, overWindow old ans.readData)

/-- The success flag of `Store[d].Write`: false at an index the store rejects (R61), else open (R60). -/
def Store.writeFlag (st : Store) (ans : Answers) (idx : Nat) : Bool := st.accepts idx && ans.writeOk

/-- `Store[d].Write(idx, data)` (R57): after a success the law fixes the sector (R61), after a failure the sector's contents
are open (R60, R214). -/
def Store.write (st : Store) (ans : Answers) (idx : Nat) (data : List Byte) : Bool × Store :=
  (st.writeFlag ans idx,
   { st with sectors := if st.writeFlag ans idx then tablePut st.sectors idx data else tableErase st.sectors idx,
             unsaved := true })

/-- `Store[d].Save()` returns nothing (R60); nothing the store has been given is left unsaved (R66; log entry 15). -/
def Store.save (st : Store) : Store := { st with unsaved := false }

/-- The call `Store[d].Save()` with its event. -/
def State.saveStore (s : State) (d : Drive) : State := (s.setStore d (s.store d).save).emit (.stoSave d)

/-! ## The console and the system -/

/-- `Con.Status()`: true when a character is buffered (R120; log entry 13). -/
def State.consoleFull (s : State) : Bool := !s.console.isEmpty

/-- `Sys.Shutdown()` with its event (R172). -/
def State.requestShutdown (s : State) : State := { s with shutdownRequested := true }.emit .shutdown

end Sys2Proof.Machine
end

