-- ==== Sys2Proof/Machine/Flags.lean ====
section
/-! DEFINITION. The status latch, the block's only flag (spec/10_state.md R26), and the status codes (spec/00_scope.md R14). -/

namespace Sys2Proof.Machine

/-- Step 1 of every operation write: failure is latched before any other action (R141, R185). Every failure of the
block is this and no more (R180, R181). -/
def State.latchFailure (s : State) : State := s.setLastok false

/-- The disk status code: `OK = 0x00` for true, `ERROR = 0x01` for false (R14, R29, R160). -/
def diskStatusCode (ok : Bool) : Byte := if ok then 0x00#8 else 0x01#8

/-- The console status code: `FULL = 0x01` for a buffered character, `EMPTY = 0x00` without (R14, R120). -/
def consoleStatusCode (full : Bool) : Byte := if full then 0x01#8 else 0x00#8

/-- The sentinel of an unmapped read (R14, R111). -/
def unmappedSentinel : Byte := 0xFF#8

end Sys2Proof.Machine
end

