-- ==== Sys2Proof/Machine/Console.lean ====
section
/-! DEFINITION. The console ports (spec/41_console_ports.md R120 to R123). -/

namespace Sys2Proof.Machine

/-- `CONST` (R120): the status is returned, the character is not consumed. -/
def execConst (s : State) : Host.Outcome State Fault Refusal :=
  .next ((s.emit (.conStatus s.consoleFull)).completeRead (consoleStatusCode s.consoleFull))

/-- A character given to the CPU core, with its event (R121). -/
def State.giveChar (s : State) (b : Byte) : State := (s.emit (.conGet b)).completeRead b

/-- `Con.Get()` (R121): the oldest buffered character is consumed; with nothing buffered the console either returns a byte
of its choosing or holds the bus master (`CONIN_EMPTY`; log entry 12). -/
def State.getChar (s : State) : State :=
  match s.console with
  | b :: rest => { s with console := rest }.giveChar b
  | [] =>
    match s.now.emptyGet with
    | some b => s.giveChar b
    | none => s.hold

/-- `CONIN` (R121). -/
def execConin (s : State) : Host.Outcome State Fault Refusal := .next s.getChar

/-- `CONOUT` (R122): the byte is forwarded unchanged. -/
def execConout (v : Byte) (s : State) : Host.Outcome State Fault Refusal :=
  .next (s.emit (.conPut v)).completeWrite

end Sys2Proof.Machine
end

