-- ==== Sys2Proof/Machine/Control.lean ====
section
/-! DEFINITION. The control port (spec/45_control_port.md R170 to R174). -/

namespace Sys2Proof.Machine

/-- The second half of a save (R171): the secondary is asked, and saved if it is available now. The machine may stop before
that save (log entry 15). -/
def State.saveSecondary (s : State) : State :=
  let s1 := s.emit (.stoAvail .secondary s.now.available)
  if s.now.available then
    if s.now.saveStop = .beforeSecondSave then s1.stop else (s1.saveStore .secondary).completeWrite
  else s1.completeWrite

/-- Save all (R171): the primary always, then the secondary. The two saves are not atomic: the machine may stop between them. -/
def State.saveAll (s : State) : State :=
  let s1 := s.saveStore .primary
  if s.now.saveStop = .beforeQuery then s1.stop else s1.saveSecondary

/-- `CTLSAVE` (R171). -/
def execCtlsave (s : State) : Host.Outcome State Fault Refusal := .next s.saveAll

/-- `CTLQUIT` (R172). -/
def execCtlquit (s : State) : Host.Outcome State Fault Refusal := .next s.requestShutdown.completeWrite

/-- `CTLNOP` (R173): every other opcode is ignored. -/
def execCtlnop (_v : Byte) (s : State) : Host.Outcome State Fault Refusal := .next s.completeWrite

end Sys2Proof.Machine
end

