-- ==== Sys2Proof/Machine/DiskOp.lean ====
section
/-! DEFINITION. The operation write (spec/43_disk_operation.md R140 to R152): one five-step operation for every opcode. -/

namespace Sys2Proof.Machine

/-- Step 5 with opcode READ: the store puts the sector over the window, and its answer is latched (R140, R144, R57). -/
def State.readSector (s : State) (d : Drive) (a : Addr) (idx : Nat) : State :=
  let old := memRead s.mem a.toNat s.geom.sectorSize
  let answer := (s.store d).read s.now idx old
  ((s.emit (.stoRead d idx answer.1)).setMem (memWrite s.mem a.toNat answer.2)).setLastok answer.1

/-- Step 5 with opcode WRITE: the store takes the window, and its answer is latched; memory is unchanged (R140, R144, R57). -/
def State.writeSector (s : State) (d : Drive) (a : Addr) (idx : Nat) : State :=
  let data := memRead s.mem a.toNat s.geom.sectorSize
  let answer := (s.store d).write s.now idx data
  ((s.setStore d answer.2).emit (.stoWrite d idx data answer.1)).setLastok answer.1

/-- Step 5: the opcode is looked at; a value that is neither READ nor WRITE does nothing (R144, R147). -/
def State.dispatchOpcode (s : State) (v : Byte) (d : Drive) (a : Addr) (idx : Nat) : State :=
  if v = opRead then s.readSector d a idx
  else if v = opWrite then s.writeSector d a idx
  else s

/-- Step 3: the DMA window is asked for; a refusal stops the operation (R142). Then steps 4 and 5. -/
def State.resolveWindow (s : State) (v : Byte) (d : Drive) : State :=
  let a := s.regs.dma
  let n := s.geom.sectorSize
  let g := s.granted a n
  let s1 := s.emit (.dmaReq a n g)
  if g then s1.dispatchOpcode v d a s1.sectorIndex else s1

/-- The operation write `DSKOP(v)` (R140): failure is latched first (step 1), an invalid drive stops (step 2). -/
def State.diskOperation (s : State) (v : Byte) : State :=
  let s1 := s.latchFailure
  match s1.regs.selectedDrive with
  | none => s1
  | some d => s1.resolveWindow v d

/-- `DSKRD` (R145). -/
def execDskrd (s : State) : Host.Outcome State Fault Refusal := .next (s.diskOperation opRead).completeWrite

/-- `DSKWR` (R146). -/
def execDskwr (s : State) : Host.Outcome State Fault Refusal := .next (s.diskOperation opWrite).completeWrite

/-- `DSKINV` (R147). -/
def execDskinv (v : Byte) (s : State) : Host.Outcome State Fault Refusal := .next (s.diskOperation v).completeWrite

end Sys2Proof.Machine
end

