-- ==== Sys2Proof/Machine/DiskReads.lean ====
section
/-! DEFINITION. The two readable disk ports (spec/44_disk_reads.md R160 to R162). -/

namespace Sys2Proof.Machine

/-- `DSKSTAT` (R160): the latch is encoded, not changed. -/
def execDskstat (s : State) : Host.Outcome State Fault Refusal := .next (s.completeRead (diskStatusCode s.regs.lastok))

/-- `DSKCNT` (R161): the count sampled at reset. -/
def execDskcnt (s : State) : Host.Outcome State Fault Refusal :=
  .next (s.completeRead (BitVec.ofNat 8 s.regs.drvcnt.value))

end Sys2Proof.Machine
end

