-- ==== Sys2Proof/Machine/DiskRegs.lean ====
section
/-! DEFINITION. The disk register writes (spec/42_disk_register_writes.md R130 to R134): each updates its register and triggers
nothing. -/

namespace Sys2Proof.Machine

/-- `SETTRK` (R130). -/
def execSettrk (v : Byte) (s : State) : Host.Outcome State Fault Refusal := .next (s.setTrack v).completeWrite

/-- `SETSEC` (R131). -/
def execSetsec (v : Byte) (s : State) : Host.Outcome State Fault Refusal := .next (s.setSector v).completeWrite

/-- `SETDMAL` (R132). -/
def execSetdmal (v : Byte) (s : State) : Host.Outcome State Fault Refusal := .next (s.setDmalo v).completeWrite

/-- `SETDMAH` (R133). -/
def execSetdmah (v : Byte) (s : State) : Host.Outcome State Fault Refusal := .next (s.setDmahi v).completeWrite

/-- `SETDRV` (R134). -/
def execSetdrv (v : Byte) (s : State) : Host.Outcome State Fault Refusal := .next (s.setDrvsel v).completeWrite

end Sys2Proof.Machine
end

