-- ==== Sys2Proof/Machine/Unmapped.lean ====
section
/-! DEFINITION. Accesses at addresses no row of the port map decodes (spec/40_port_decoder.md R111 to R113). -/

namespace Sys2Proof.Machine

/-- `INUNMAP` (R111): the sentinel, whatever the port. -/
def execInunmap (_p : Port) (s : State) : Host.Outcome State Fault Refusal := .next (s.completeRead unmappedSentinel)

/-- `OUTUNMAP` (R112): the byte is discarded. -/
def execOutunmap (_p : Port) (_v : Byte) (s : State) : Host.Outcome State Fault Refusal := .next s.completeWrite

end Sys2Proof.Machine
end

