-- ==== Sys2Proof/Machine/Dispatch.lean ====
section
/-! DEFINITION. The meaning of every instruction: one arm per constructor (spec/40_port_decoder.md R110). -/

namespace Sys2Proof.Machine

def exec (i : Instr) (s : State) : Host.Outcome State Fault Refusal :=
  match i with
  | .const => Sys2Proof.Machine.execConst s
  | .conin => Sys2Proof.Machine.execConin s
  | .conout v => Sys2Proof.Machine.execConout v s
  | .settrk v => Sys2Proof.Machine.execSettrk v s
  | .setsec v => Sys2Proof.Machine.execSetsec v s
  | .setdmal v => Sys2Proof.Machine.execSetdmal v s
  | .setdmah v => Sys2Proof.Machine.execSetdmah v s
  | .dskrd => Sys2Proof.Machine.execDskrd s
  | .dskwr => Sys2Proof.Machine.execDskwr s
  | .dskinv v => Sys2Proof.Machine.execDskinv v s
  | .dskstat => Sys2Proof.Machine.execDskstat s
  | .dskcnt => Sys2Proof.Machine.execDskcnt s
  | .setdrv v => Sys2Proof.Machine.execSetdrv v s
  | .ctlsave => Sys2Proof.Machine.execCtlsave s
  | .ctlquit => Sys2Proof.Machine.execCtlquit s
  | .ctlnop v => Sys2Proof.Machine.execCtlnop v s
  | .inunmap p => Sys2Proof.Machine.execInunmap p s
  | .outunmap p v => Sys2Proof.Machine.execOutunmap p v s

end Sys2Proof.Machine
end

