-- ==== Sys2Proof/Machine/Step.lean ====
section
/-! DEFINITION. One step: the outside's inputs land, then the CPU core's next action takes effect (spec/00_scope.md R7;
spec/20_memory.md R64). -/

namespace Sys2Proof.Machine

/-- One step. A transaction is decoded and runs to completion in the step (R7), but for a `CONIN` that is held (R187). A CPU
store changes the shared memory. With no action the block does nothing (log entry 9). A machine that has stopped stays as it
is (log entry 15). -/
def step (s : State) : Host.Outcome State Fault Refusal :=
  if s.stopped then .next s
  else
    match s.pending with
    | [] => .next s.land
    | .store a b :: _ => .next (s.land.cpuStore a b)
    | .bus w :: _ => exec (decode w) s.land

/-- `s`, running, with the transaction whose word is the low `nbits` bits of `w` presented next (log entry 9). -/
def State.withFetchWord (s : State) (nbits w : Nat) : State :=
  { s with pending := .bus (BitVec.ofNat 25 (w % 2 ^ nbits)) :: s.pending, stopped := false }

end Sys2Proof.Machine
end

