-- ==== Sys2Proof/Safety.lean ====
section
/-! DEFINITION. What a sound state is: the relations between fields that the spec gives and every step keeps. -/

namespace Sys2Proof.Machine

/-- The bounds of the parameters (spec/00_scope.md R8). -/
abbrev Geometry.wf (g : Geometry) : Prop := 1 ≤ g.sectorSize ∧ g.sectorSize ≤ 65536 ∧ 1 ≤ g.sectorsPerTrack

/-- The canonical form of a store: indices strictly rising, none beyond the largest the block can form (spec/10_state.md R35),
every sector of `SECTOR_SIZE` bytes, and none at an index the store rejects (spec/20_memory.md R61). -/
abbrev Store.wf (g : Geometry) (st : Store) : Prop :=
  tableSorted st.sectors ∧ ∀ c ∈ st.sectors, c.1 ≤ 255 * g.sectorsPerTrack + 255 ∧ c.2.length = g.sectorSize ∧ st.accepts c.1 = true

/-- The invariant of the machine. -/
abbrev State.Inv (s : State) : Prop :=
  s.geom.wf ∧ Memory.wf s.mem ∧ s.primary.wf s.geom ∧ s.secondary.wf s.geom

/-- `s` goes to `t` in one step. -/
abbrev Steps (s t : State) : Prop := step s = .next t

/-- `t` is reached from `s` in some number of steps. -/
inductive Reaches (s : State) : State → Prop
  | start : Reaches s s
  | step {t u : State} (h : Reaches s t) (h' : Steps t u) : Reaches s u

end Sys2Proof.Machine
end

