-- ==== Sys2Proof/WellFormed.lean ====
section
/-! DEFINITION. Which instructions an encoding exists for: the conditions of the catch-all rows of spec/30_encoding.md R85. -/

namespace Sys2Proof

/-- An address with an "in" row of the port map (R84). -/
def mappedForReads (lo : Byte) : Bool :=
  [0x00#8, 0x01#8, 0x15#8, 0x16#8].contains lo

/-- An address with an "out" row of the port map (R84). -/
def mappedForWrites (lo : Byte) : Bool :=
  [0x02#8, 0x10#8, 0x11#8, 0x12#8, 0x13#8, 0x14#8, 0x17#8, 0xE0#8].contains lo

/-- The instruction is one the opcode map has: an unknown disk opcode is neither READ nor WRITE (R147), an ignored
control opcode neither 'S' nor 'Q' (R173), an unmapped access has no row (R111, R112). -/
def Instr.wellFormed : Instr → Bool
  | .dskinv v     => !(v == opRead) && !(v == opWrite)
  | .ctlnop v     => !(v == opSave) && !(v == opQuit)
  | .inunmap p    => !mappedForReads (lo8 p)
  | .outunmap p _ => !mappedForWrites (lo8 p)
  | .const | .conin | .conout _ | .settrk _ | .setsec _ | .setdmal _ | .setdmah _ | .dskrd | .dskwr | .dskstat
  | .dskcnt | .setdrv _ | .ctlsave | .ctlquit => true

end Sys2Proof
end

