-- ==== Sys2Proof/Certificates/Slice0/Obligations.lean ====
section
/-! DEFINITION. The statements about the model, from the numbered rules of spec/. A drive is named by its number (spec/10_state.md
R36); `Regs.dma` is the composed DMA address (what it is, `DmaAddressIsLastLowAndHighByte` says), `State.sectorIndex` the linear
sector index. -/

open Sys2Proof Sys2Proof.Machine

/-! ## Encoding -/

/-- Words of spec/95_test_vectors.md 2.1 decode to the instructions that table names. -/
def Obligations.SampleWordsDecode : Prop :=
  decode 0x0000000#25 = .const ∧ decode 0x1000241#25 = .conout 0x41#8 ∧ decode 0x1001002#25 = .settrk 0x02#8 ∧
  decode 0x1FF1401#25 = .dskrd ∧ decode 0x1001481#25 = .dskinv 0x81#8 ∧ decode 0x0AB1500#25 = .dskstat ∧
  decode 0x100E053#25 = .ctlsave ∧ decode 0x100E073#25 = .ctlnop 0x73#8 ∧ decode 0x0001000#25 = .inunmap 0x0010#16 ∧
  decode 0x10018AA#25 = .outunmap 0x0018#16 0xAA#8

/-- Every well-formed instruction is what its own word decodes to, with every operand at every value (R83, R85). -/
def Obligations.DecodeOfEncodeIsIdentity : Prop :=
  ∀ i : Instr, i.wellFormed = true → decode (encode i) = i

/-- No word decodes to an instruction the opcode map does not have: a catch-all row is selected only where no more specific
row matches (R83, R85). -/
def Obligations.DecodedInstructionIsWellFormed : Prop :=
  ∀ w : TWord, (decode w).wellFormed = true

/-- Encoding what was decoded gives the word back in its canonical form: a read's data bits 0 (R80), a mapped port's high byte 0
(R90), everything else as it was. -/
def Obligations.EncodeOfDecodeIsCanonicalWord : Prop :=
  ∀ w : TWord,
    (w.isWrite = true → encode (decode w) =
      outWord (if mappedForWrites (lo8 w.port) then canonicalPort (lo8 w.port) else w.port) w.data) ∧
    (w.isWrite = false → encode (decode w) =
      inWord (if mappedForReads (lo8 w.port) then canonicalPort (lo8 w.port) else w.port))

/-- The decoder is the table's most-specific-mask selection: for every transaction word exactly one row is selected, the row of the
instruction decoded (R83). The table has the eighteen rows of R85. -/
def Obligations.MostSpecificTableRowIsDecoded : Prop :=
  ∀ w : TWord, (selectedRows w).map TableRow.mnemonic = [(decode w).mnemonic]

/-- R82: words that agree in the direction, the low port byte and (for a write) the data byte are the same instruction and do the
same, whatever the high port byte (nor do the data bits of a read matter, R80). And there is no partial decode: words of one
direction that differ in the low port byte are the same instruction only where both addresses are unmapped. -/
def Obligations.IgnoredBitsChangeNothing : Prop :=
  (∀ (w w' : TWord) (s : State), w.isWrite = w'.isWrite → lo8 w.port = lo8 w'.port →
    (w.isWrite = true → w.data = w'.data) →
    (decode w).mnemonic = (decode w').mnemonic ∧ exec (decode w) s = exec (decode w') s) ∧
  ∀ w w' : TWord, w.isWrite = w'.isWrite → lo8 w.port ≠ lo8 w'.port → (decode w).mnemonic = (decode w').mnemonic →
    (decode w).mnemonic = (if w.isWrite then "OUTUNMAP" else "INUNMAP")

/-! ## The step -/

/-- A step of a running machine with a transaction presented runs the instruction its word decodes to, in the state in which the
outside's inputs of this step have landed. R7 and R64 say that a transaction is one step. How the inputs land is the model's own
choice: the transaction is the first of a list (log entry 9), the answers are the next listed ones (log entry 4), the characters
received are put behind those already buffered at the start of the step (log entry 13), and nothing else differs. -/
def Obligations.StepRunsDecodedTransaction : Prop :=
  ∀ (s : State) (w : TWord) (rest : List CpuAction), s.stopped = false → s.pending = .bus w :: rest →
    step s = exec (decode w) s.land ∧
    s.land = { s with now := s.land.now, later := s.later.tail, draws := s.draws + 1, console := s.console ++ s.land.now.chars } ∧
    ∀ (a : Answers) (l : List Answers), s.later = a :: l → s.land.now = a

/-- The model's choice (log entries 9, 25): with no action of the CPU core a step only lets the outside's inputs land; a CPU store
writes its byte and no other, and the block does nothing. -/
def Obligations.StepWithoutTransaction : Prop :=
  ∀ s : State, s.stopped = false →
    (s.pending = [] → step s = .next s.land) ∧
    ∀ (a : Addr) (b : Byte) (rest : List CpuAction), s.pending = .store a b :: rest →
      ∃ m, step s = .next { s.land with mem := m, pending := rest } ∧
        ∀ x, Memory.read m x = if x = a.toNat then b else Memory.read s.mem x

/-- No step of the machine is refused and none faults (R87, R180). -/
def Obligations.EveryStepAnswersNextState : Prop :=
  ∀ s : State, ∃ t, step s = .next t

/-- Every transaction runs to completion in its own step (R7, R64): the CPU core goes on to its next action, with a byte for a read
and nothing for a write. The exceptions are a `CONIN` that an empty console holds (R187) and a `CTLSAVE` in which the machine stops
between the two saves (R171; log entry 15). -/
def Obligations.EveryTransactionCompletes : Prop :=
  ∀ (i : Instr) (s : State), (i = .conin → s.console ≠ [] ∨ s.now.emptyGet ≠ none) →
    (i = .ctlsave → s.now.saveStop = .goesOn ∨ (s.now.saveStop = .beforeSecondSave ∧ s.now.available = false)) →
    ∃ t, exec i s = .next t ∧ t.pending = s.pending.tail ∧ (t.result.isSome = i.isRead)

/-! ## The console ports -/

/-- `CONST` (R120, with the polarity of decision D16, log entry 13): 0x01 when a character is buffered, else 0x00. That the read does
not take the character and changes nothing is decision D12, log entry 23. -/
def Obligations.ConsoleStatusIsReturned : Prop :=
  (∀ w : TWord, w &&& 0x100FF00#25 = 0x0000000#25 → decode w = .const) ∧
  ∀ s : State, exec .const s =
    .next { s with events := s.events ++ [.conStatus (!s.console.isEmpty)],
                   result := some (if s.console.isEmpty then 0x00#8 else 0x01#8), pending := s.pending.tail }

/-- `CONIN` with a character buffered (R121; the buffer is log entry 13): the oldest one is returned and consumed. -/
def Obligations.ConsoleCharacterIsConsumed : Prop :=
  (∀ w : TWord, w &&& 0x100FF00#25 = 0x0000100#25 → decode w = .conin) ∧
  ∀ (s : State) (b : Byte) (rest : List Byte), s.console = b :: rest → exec .conin s =
    .next { s with console := rest, events := s.events ++ [.conGet b], result := some b, pending := s.pending.tail }

/-- `CONIN` with nothing buffered (R121, decision D17; log entry 12): either a byte of the console's choosing is returned, or the
transaction is not complete and nothing has changed. -/
def Obligations.EmptyConsoleReturnsOrHolds : Prop :=
  ∀ s : State, s.console = [] →
    (∀ b, s.now.emptyGet = some b → exec .conin s =
      .next { s with events := s.events ++ [.conGet b], result := some b, pending := s.pending.tail }) ∧
    (s.now.emptyGet = none → exec .conin s = .next s)

/-- A held `CONIN` waits (R187): a step without a character and without an answer leaves it presented and the block as it was, and
the step in which a character arrives completes it with that character. -/
def Obligations.HeldReadCompletesOnArrival : Prop :=
  ∀ (s : State) (w : TWord) (rest : List CpuAction) (a : Answers) (l : List Answers),
    s.stopped = false → s.pending = .bus w :: rest → decode w = .conin → s.console = [] → s.later = a :: l →
    (a.chars = [] → a.emptyGet = none → ∃ t, step s = .next t ∧ t.pending = s.pending ∧ t.console = [] ∧ t.regs = s.regs ∧
      t.mem = s.mem ∧ t.primary = s.primary ∧ t.secondary = s.secondary ∧ t.result = s.result ∧ t.events = s.events) ∧
    ∀ b cs, a.chars = b :: cs → ∃ t, step s = .next t ∧ t.pending = rest ∧ t.result = some b ∧ t.console = cs ∧
      t.events = s.events ++ [.conGet b]

/-- R122, `CONOUT`: the byte is forwarded whole, once, and nothing else changes. -/
def Obligations.ConoutForwardsByte : Prop :=
  (∀ w : TWord, w &&& 0x100FF00#25 = 0x1000200#25 → decode w = .conout (w.extractLsb' 0 8)) ∧
  ∀ (v : Byte) (s : State), exec (.conout v) s =
    .next { s with events := s.events ++ [.conPut v], result := none, pending := s.pending.tail }

/-! ## The disk register writes -/

/-- R130, `SETTRK`. -/
def Obligations.SettrkWritesTrack : Prop :=
  (∀ w : TWord, w &&& 0x100FF00#25 = 0x1001000#25 → decode w = .settrk (w.extractLsb' 0 8)) ∧
  ∀ (v : Byte) (s : State), exec (.settrk v) s =
    .next { s with regs := { s.regs with track := v }, result := none, pending := s.pending.tail }

/-- R131, `SETSEC`. -/
def Obligations.SetsecWritesSector : Prop :=
  (∀ w : TWord, w &&& 0x100FF00#25 = 0x1001100#25 → decode w = .setsec (w.extractLsb' 0 8)) ∧
  ∀ (v : Byte) (s : State), exec (.setsec v) s =
    .next { s with regs := { s.regs with sector := v }, result := none, pending := s.pending.tail }

/-- R132, `SETDMAL`: the other half of the address is unchanged. -/
def Obligations.SetdmalWritesLowByte : Prop :=
  (∀ w : TWord, w &&& 0x100FF00#25 = 0x1001200#25 → decode w = .setdmal (w.extractLsb' 0 8)) ∧
  ∀ (v : Byte) (s : State), exec (.setdmal v) s =
    .next { s with regs := { s.regs with dmalo := v }, result := none, pending := s.pending.tail }

/-- R133, `SETDMAH`: the other half of the address is unchanged. -/
def Obligations.SetdmahWritesHighByte : Prop :=
  (∀ w : TWord, w &&& 0x100FF00#25 = 0x1001300#25 → decode w = .setdmah (w.extractLsb' 0 8)) ∧
  ∀ (v : Byte) (s : State), exec (.setdmah v) s =
    .next { s with regs := { s.regs with dmahi := v }, result := none, pending := s.pending.tail }

/-- `SETDRV` (R134, with the width of decision D4, log entry 11): every byte is stored unchanged, above the drive count too. -/
def Obligations.SetdrvStoresAnyByte : Prop :=
  (∀ w : TWord, w &&& 0x100FF00#25 = 0x1001700#25 → decode w = .setdrv (w.extractLsb' 0 8)) ∧
  ∀ (v : Byte) (s : State), exec (.setdrv v) s =
    .next { s with regs := { s.regs with drvsel := v }, result := none, pending := s.pending.tail }

/-- R50: a write of port 0x12 sets the low byte of the DMA address and one of port 0x13 the high byte. Whichever half is written
first, the address is 256 times the last high byte plus the last low byte; after one half is written the other is the old one. -/
def Obligations.DmaAddressIsLastLowAndHighByte : Prop :=
  ∀ (s : State) (lo hi lo' : Byte), ∃ t1 t2 t3 u1 u2,
    exec (decode (outWord 0x0012#16 lo)) s = .next t1 ∧ exec (decode (outWord 0x0013#16 hi)) t1 = .next t2 ∧
    exec (decode (outWord 0x0012#16 lo')) t2 = .next t3 ∧
    exec (decode (outWord 0x0013#16 hi)) s = .next u1 ∧ exec (decode (outWord 0x0012#16 lo)) u1 = .next u2 ∧
    t1.regs.dma.toNat = 256 * s.regs.dmahi.toNat + lo.toNat ∧
    t2.regs.dma.toNat = 256 * hi.toNat + lo.toNat ∧
    t3.regs.dma.toNat = 256 * hi.toNat + lo'.toNat ∧
    u1.regs.dma.toNat = 256 * hi.toNat + s.regs.dmalo.toNat ∧
    u2.regs.dma = t2.regs.dma

/-! ## The operation write -/

/-- Step 2 (R141, R180 cause 1; unsigned by decision D4, log entry 11): on an invalid drive every opcode latches failure and calls
no collaborator. -/
def Obligations.OperationOnInvalidDriveFails : Prop :=
  ∀ (i : Instr) (s : State), i.isOperation = true → s.regs.drvcnt.value ≤ s.regs.drvsel.toNat → exec i s =
    .next { s with regs := { s.regs with lastok := false }, result := none, pending := s.pending.tail }

/-- Step 3 (R142, R180 cause 2; the no-wrap rule is decision D8, log entry 5): a refused window is asked for once, and the operation
ends with failure, memory and stores untouched. -/
def Obligations.OperationWithRefusedWindowFails : Prop :=
  ∀ (i : Instr) (s : State), i.isOperation = true → s.regs.drvsel.toNat < s.regs.drvcnt.value →
    (s.now.grant = false ∨ 65536 < s.regs.dma.toNat + s.geom.sectorSize) → exec i s =
    .next { s with regs := { s.regs with lastok := false },
                   events := s.events ++ [.dmaReq s.regs.dma s.geom.sectorSize false],
                   result := none, pending := s.pending.tail }

/-- `DSKINV` (R147): an unknown opcode latches failure; on a valid drive it asks for the window once and does nothing more. Which drive
is valid rests on the unsigned comparison (decision D4, log entry 11), the grant in the event on the no-wrap rule (decision D8, log
entry 5). -/
def Obligations.UnknownOpcodeLatchesFailure : Prop :=
  (∀ w : TWord, w &&& 0x100FF00#25 = 0x1001400#25 → w &&& 0x100FFFF#25 ≠ 0x1001401#25 → w &&& 0x100FFFF#25 ≠ 0x1001402#25 →
    decode w = .dskinv (w.extractLsb' 0 8)) ∧
  ∀ (v : Byte) (s : State), v ≠ 0x01#8 → v ≠ 0x02#8 →
    (s.regs.drvcnt.value ≤ s.regs.drvsel.toNat → exec (.dskinv v) s =
      .next { s with regs := { s.regs with lastok := false }, result := none, pending := s.pending.tail }) ∧
    (s.regs.drvsel.toNat < s.regs.drvcnt.value → exec (.dskinv v) s =
      .next { s with regs := { s.regs with lastok := false },
                     events := s.events ++ [.dmaReq s.regs.dma s.geom.sectorSize
                       (s.now.grant && decide (s.regs.dma.toNat + s.geom.sectorSize ≤ 65536))],
                     result := none, pending := s.pending.tail })

/-- `DSKRD` of a sector the store holds and does not reject (R145, R61; index R143 with decision D7, byte order decision D9, log entries 6, 17, 19): success
is latched, byte `k` of the sector is at `DMA + k`, every other byte and everything else is as before. -/
def Obligations.ReadOfHeldSectorFillsWindow : Prop :=
  (∀ w : TWord, w &&& 0x100FFFF#25 = 0x1001401#25 → decode w = .dskrd) ∧
  ∀ (s : State) (d : Drive) (sec : List Byte), s.regs.drvsel.toNat = d.number → d.number < s.regs.drvcnt.value →
    s.now.grant = true → s.regs.dma.toNat + s.geom.sectorSize ≤ 65536 →
    tableGet (s.store d).sectors (s.geom.sectorsPerTrack * s.regs.track.toNat + s.regs.sector.toNat) = some sec →
    s.geom.sectorsPerTrack * s.regs.track.toNat + s.regs.sector.toNat ∉ (s.store d).rejects → sec.length = s.geom.sectorSize →
    ∃ m, exec .dskrd s =
        .next { s with regs := { s.regs with lastok := true }, mem := m,
                       events := s.events ++ [.dmaReq s.regs.dma s.geom.sectorSize true,
                         .stoRead d (s.geom.sectorsPerTrack * s.regs.track.toNat + s.regs.sector.toNat) true],
                       result := none, pending := s.pending.tail } ∧
      (∀ k < s.geom.sectorSize, Memory.read m (s.regs.dma.toNat + k) = sec.getD k 0#8) ∧
      ∀ x, (x < s.regs.dma.toNat ∨ s.regs.dma.toNat + s.geom.sectorSize ≤ x) → Memory.read m x = Memory.read s.mem x

/-- `DSKRD` of a sector the law does not fix, at an index the store does not reject (R145, R57, decision D10; log entries 6, 7): the store's own flag is latched, the window
holds what the store put there, and nothing outside the window changes. -/
def Obligations.ReadOfOpenSectorFollowsStore : Prop :=
  ∀ (s : State) (d : Drive), s.regs.drvsel.toNat = d.number → d.number < s.regs.drvcnt.value →
    s.now.grant = true → s.regs.dma.toNat + s.geom.sectorSize ≤ 65536 →
    tableGet (s.store d).sectors (s.geom.sectorsPerTrack * s.regs.track.toNat + s.regs.sector.toNat) = none →
    s.geom.sectorsPerTrack * s.regs.track.toNat + s.regs.sector.toNat ∉ (s.store d).rejects →
    ∃ m, exec .dskrd s =
        .next { s with regs := { s.regs with lastok := s.now.readOk }, mem := m,
                       events := s.events ++ [.dmaReq s.regs.dma s.geom.sectorSize true,
                         .stoRead d (s.geom.sectorsPerTrack * s.regs.track.toNat + s.regs.sector.toNat) s.now.readOk],
                       result := none, pending := s.pending.tail } ∧
      (∀ k < s.geom.sectorSize, Memory.read m (s.regs.dma.toNat + k) =
        if k < s.now.readData.length then s.now.readData.getD k 0#8 else Memory.read s.mem (s.regs.dma.toNat + k)) ∧
      ∀ x, (x < s.regs.dma.toNat ∨ s.regs.dma.toNat + s.geom.sectorSize ≤ x) → Memory.read m x = Memory.read s.mem x

/-- `DSKWR` at an index the store does not reject (R146, R144, decisions D7 and D10; log entries 6, 17, 20): the selected store is given the window's bytes and its flag is
latched. A store that took them holds them as the sector; after a failure the sector is open. Memory, every other sector and the
other store are as before. -/
def Obligations.WriteSendsWindowToStore : Prop :=
  (∀ w : TWord, w &&& 0x100FFFF#25 = 0x1001402#25 → decode w = .dskwr) ∧
  ∀ (s : State) (d : Drive) (idx : Nat) (data : List Byte),
    s.regs.drvsel.toNat = d.number → d.number < s.regs.drvcnt.value →
    s.now.grant = true → s.regs.dma.toNat + s.geom.sectorSize ≤ 65536 →
    idx = s.geom.sectorsPerTrack * s.regs.track.toNat + s.regs.sector.toNat → idx ∉ (s.store d).rejects →
    data = (List.range s.geom.sectorSize).map (fun k => Memory.read s.mem (s.regs.dma.toNat + k)) →
    ∃ t, exec .dskwr s = .next t ∧
      t = { s with regs := { s.regs with lastok := s.now.writeOk }, primary := t.primary, secondary := t.secondary,
                   events := s.events ++ [.dmaReq s.regs.dma s.geom.sectorSize true, .stoWrite d idx data s.now.writeOk],
                   result := none, pending := s.pending.tail } ∧
      (∀ j, tableGet (t.store d).sectors j =
        if j = idx then (if s.now.writeOk then some data else none) else tableGet (s.store d).sectors j) ∧
      (t.store d).unsaved = true ∧ (t.store d).rejects = (s.store d).rejects ∧ ∀ e, e ≠ d → t.store e = s.store e

/-- The collaborator calls of an operation write and the latch after it, on every path of R148 and in the order of its steps
(R140, R184; decisions D4, D7 and D8, log entries 5, 11, 17): an invalid drive decides before the window, the window before the
opcode, and the store is called at most once. -/
def Obligations.OperationCallsFollowStepOrder : Prop :=
  ∀ (i : Instr) (s : State), i.isOperation = true → i.wellFormed = true →
    ∃ t es, exec i s = .next t ∧ t.events = s.events ++ es ∧
      ((s.regs.drvcnt.value ≤ s.regs.drvsel.toNat ∧ es = [] ∧ t.regs.lastok = false) ∨
       (s.regs.drvsel.toNat < s.regs.drvcnt.value ∧ s.granted s.regs.dma s.geom.sectorSize = false ∧
        es = [.dmaReq s.regs.dma s.geom.sectorSize false] ∧ t.regs.lastok = false) ∨
       (s.regs.drvsel.toNat < s.regs.drvcnt.value ∧ s.granted s.regs.dma s.geom.sectorSize = true ∧
        ∃ d ok, d.number = s.regs.drvsel.toNat ∧
          ((i = .dskrd ∧ es = [.dmaReq s.regs.dma s.geom.sectorSize true, .stoRead d s.sectorIndex ok] ∧ t.regs.lastok = ok) ∨
           (i = .dskwr ∧ es = [.dmaReq s.regs.dma s.geom.sectorSize true,
              .stoWrite d s.sectorIndex (memRead s.mem s.regs.dma.toNat s.geom.sectorSize) ok] ∧ t.regs.lastok = ok) ∨
           (i ≠ .dskrd ∧ i ≠ .dskwr ∧ es = [.dmaReq s.regs.dma s.geom.sectorSize true] ∧ t.regs.lastok = false))))

/-- What an operation write never does (R149). It completes; no register but the latch changes; console, system and the parameters are
untouched; every call it makes is a window request or a call on the selected store, with whole sectors; the store not selected and
the memory outside the window are untouched; the latch holds this operation's own outcome. R149 says that the store not selected is
not accessed; that it is then unchanged rests on the two stores sharing no sector (R60 (f), decision D11, log entry 26). -/
def Obligations.OperationWriteLeavesTheRest : Prop :=
  ∀ (i : Instr) (s : State), i.isOperation = true →
    ∃ t es, exec i s = .next t ∧ t.events = s.events ++ es ∧
      t.regs = { s.regs with lastok := t.regs.lastok } ∧ t.geom = s.geom ∧ t.console = s.console ∧
      t.shutdownRequested = s.shutdownRequested ∧ t.stopped = s.stopped ∧ t.pending = s.pending.tail ∧
      (∀ d : Drive, d.number ≠ s.regs.drvsel.toNat → t.store d = s.store d) ∧
      (∀ e ∈ es, (∃ g, e = .dmaReq s.regs.dma s.geom.sectorSize g) ∨
        (∃ d idx ok, d.number = s.regs.drvsel.toNat ∧ e = .stoRead d idx ok) ∨
        (∃ d idx data ok, d.number = s.regs.drvsel.toNat ∧ data.length = s.geom.sectorSize ∧ e = .stoWrite d idx data ok)) ∧
      (∀ x, (x < s.regs.dma.toNat ∨ s.regs.dma.toNat + s.geom.sectorSize ≤ x) → Memory.read t.mem x = Memory.read s.mem x) ∧
      (t.regs.lastok = true ↔ ∃ d idx, .stoRead d idx true ∈ es ∨ ∃ data, .stoWrite d idx data true ∈ es)

/-! ## Status and drive count -/

/-- `DSKSTAT` (R160; that reading changes nothing is decision D12, log entry 23): true reads 0x00, false 0x01. -/
def Obligations.DskstatEncodesLatch : Prop :=
  (∀ w : TWord, w &&& 0x100FF00#25 = 0x0001500#25 → decode w = .dskstat) ∧
  ∀ s : State, exec .dskstat s =
    .next { s with result := some (if s.regs.lastok then 0x00#8 else 0x01#8), pending := s.pending.tail }

/-- `DSKCNT` (R161): the count is returned, 0x01 or 0x02. That the read asks nothing and changes nothing is decision D12, log entry 23.
The same byte is returned ever after; and after a reset, through any transactions that follow it with any answers, it is 0x01 where
the secondary store was unavailable at that reset, else 0x02. -/
def Obligations.DskcntReturnsDriveCount : Prop :=
  (∀ w : TWord, w &&& 0x100FF00#25 = 0x0001600#25 → decode w = .dskcnt) ∧
  (∀ s : State, ∃ b : Byte, b.toNat = s.regs.drvcnt.value ∧ (b = 0x01#8 ∨ b = 0x02#8) ∧
    ∀ t : State, Reaches s t → exec .dskcnt t = .next { t with result := some b, pending := t.pending.tail }) ∧
  ∀ (r : ResetInputs) (program : List CpuAction) (answers : List Answers) (t : State),
    Reaches { State.resetWith r with pending := program, later := answers } t →
    exec .dskcnt t = .next { t with result := some (if r.available then 0x02#8 else 0x01#8), pending := t.pending.tail }

/-- A status read after an operation write returns that operation's outcome (R64 (d), R144): OK exactly when a store call of this
operation reported success. -/
def Obligations.StatusReportsLastOperation : Prop :=
  ∀ (i : Instr) (s : State), i.isOperation = true →
    ∃ t u es, exec i s = .next t ∧ exec .dskstat t = .next u ∧ t.events = s.events ++ es ∧
      (u.result = some 0x00#8 ∨ u.result = some 0x01#8) ∧
      (u.result = some 0x00#8 ↔ ∃ d idx, .stoRead d idx true ∈ es ∨ ∃ data, .stoWrite d idx data true ∈ es)

/-! ## The control port -/

/-- `CTLSAVE` where the machine does not stop between the saves (R171 with the order of decision D14, the code of D13 and log entries 14
and 15): the primary is saved, the secondary is asked, and saved if it is available now. -/
def Obligations.CtlsaveSavesAvailableStores : Prop :=
  (∀ w : TWord, w &&& 0x100FFFF#25 = 0x100E053#25 → decode w = .ctlsave) ∧
  ∀ s : State, (s.now.saveStop = .goesOn ∨ (s.now.saveStop = .beforeSecondSave ∧ s.now.available = false)) → exec .ctlsave s =
    .next { s with primary := { s.primary with unsaved := false },
                   secondary := if s.now.available then { s.secondary with unsaved := false } else s.secondary,
                   events := s.events ++ [.stoSave .primary, .stoAvail .secondary s.now.available] ++
                     (if s.now.available then [.stoSave .secondary] else []),
                   result := none, pending := s.pending.tail }

/-- `CTLQUIT` (R172, code of decision D13; the condition at the system is log entry 16): the request is raised once, and the block goes
on as before. -/
def Obligations.CtlquitRaisesRequest : Prop :=
  (∀ w : TWord, w &&& 0x100FFFF#25 = 0x100E051#25 → decode w = .ctlquit) ∧
  ∀ s : State, exec .ctlquit s =
    .next { s with shutdownRequested := true, events := s.events ++ [.shutdown], result := none, pending := s.pending.tail }

/-- `CTLNOP` (R173, codes of decision D13, log entry 14): any other control opcode does nothing at all. -/
def Obligations.CtlnopIsIgnored : Prop :=
  (∀ w : TWord, w &&& 0x100FF00#25 = 0x100E000#25 → w &&& 0x100FFFF#25 ≠ 0x100E053#25 → w &&& 0x100FFFF#25 ≠ 0x100E051#25 →
    decode w = .ctlnop (w.extractLsb' 0 8)) ∧
  ∀ (v : Byte) (s : State), exec (.ctlnop v) s = .next { s with result := none, pending := s.pending.tail }

/-- 'Q' raises the shutdown request exactly once per write and nothing else raises it (R172, source property S6). That the condition
at the system stays set once it is set is log entry 16: the block itself keeps no such bit. -/
def Obligations.ShutdownExactlyOncePerQuit : Prop :=
  ∀ (i : Instr) (s : State), ∃ t es, exec i s = .next t ∧ t.events = s.events ++ es ∧
    es.count .shutdown = (if i = .ctlquit then 1 else 0) ∧
    t.shutdownRequested = (s.shutdownRequested || decide (i = .ctlquit))

/-- Only 'S' saves (R171, R206): the primary always, the secondary when it is available now and the machine does not stop before that
(log entry 15), each once. -/
def Obligations.SavesOnlyByControlSave : Prop :=
  ∀ (i : Instr) (s : State), ∃ t es, exec i s = .next t ∧ t.events = s.events ++ es ∧
    es.count (.stoSave .primary) = (if i = .ctlsave then 1 else 0) ∧
    es.count (.stoSave .secondary) = (if i = .ctlsave ∧ s.now.available = true ∧ s.now.saveStop = .goesOn then 1 else 0)

/-! ## Unmapped accesses -/

/-- `INUNMAP` (R111; that a write-only address is unmapped for reads is decision D3, log entry 10): 0xFF, whatever the port and
whatever the state, and nothing changes. -/
def Obligations.UnmappedReadReturnsSentinel : Prop :=
  (∀ w : TWord, w.isWrite = false → lo8 w.port ≠ 0x00#8 → lo8 w.port ≠ 0x01#8 → lo8 w.port ≠ 0x15#8 → lo8 w.port ≠ 0x16#8 →
    decode w = .inunmap w.port) ∧
  ∀ (p : Port) (s : State), exec (.inunmap p) s = .next { s with result := some 0xFF#8, pending := s.pending.tail }

/-- `OUTUNMAP` (R112; that a read-only address is unmapped for writes is decision D3, log entry 10): the byte is discarded and nothing
changes. -/
def Obligations.UnmappedWriteIsIgnored : Prop :=
  (∀ w : TWord, w.isWrite = true → lo8 w.port ≠ 0x02#8 → lo8 w.port ≠ 0x10#8 → lo8 w.port ≠ 0x11#8 → lo8 w.port ≠ 0x12#8 →
    lo8 w.port ≠ 0x13#8 → lo8 w.port ≠ 0x14#8 → lo8 w.port ≠ 0x17#8 → lo8 w.port ≠ 0xE0#8 → decode w = .outunmap w.port w.data) ∧
  ∀ (p : Port) (v : Byte) (s : State), exec (.outunmap p v) s = .next { s with result := none, pending := s.pending.tail }

/-- The spec's decision D3 (R88, R113; log entry 10): a read of a write-only address returns 0xFF and triggers nothing, a write of a
read-only address is ignored, at every one of the port's 256 numbers. -/
def Obligations.WrongDirectionIsUnmapped : Prop :=
  ∀ (p : Port) (v : Byte) (s : State),
    (lo8 p ∈ [0x02#8, 0x10#8, 0x11#8, 0x12#8, 0x13#8, 0x14#8, 0x17#8, 0xE0#8] →
      exec (decode (inWord p)) s = .next { s with result := some 0xFF#8, pending := s.pending.tail }) ∧
    (lo8 p ∈ [0x00#8, 0x01#8, 0x15#8, 0x16#8] →
      exec (decode (outWord p v)) s = .next { s with result := none, pending := s.pending.tail })

/-! ## The whole machine -/

/-- R27: the drive count is 1 or 2 as the secondary store answered at reset, is read as that number, and never changes afterward,
whatever the machine does. -/
def Obligations.DriveCountNeverChanges : Prop :=
  (∀ r : ResetInputs, (State.resetWith r).regs.drvcnt.value = if r.available then 2 else 1) ∧
  (∀ s t : State, Reaches s t → t.regs.drvcnt = s.regs.drvcnt) ∧
  ∀ s : State, (s.regs.drvcnt.value = 1 ∨ s.regs.drvcnt.value = 2) ∧
    ∃ t, exec .dskcnt s = .next t ∧ t.result = some (BitVec.ofNat 8 s.regs.drvcnt.value)

/-- Nothing but an operation write changes the latch (R186; that a status read does not clear it is decision D12, log entry 23). An
operation write makes no call but a window request and, after it, one read or write of the selected store (no retries), and leaves the
latch true exactly when that store call reported success. -/
def Obligations.OnlyOperationWritesChangeLatch : Prop :=
  ∀ (i : Instr) (s : State), ∃ t es, exec i s = .next t ∧ t.events = s.events ++ es ∧
    (i.isOperation = false → t.regs.lastok = s.regs.lastok) ∧
    (i.isOperation = true →
      (es = [] ∨ (∃ g, es = [.dmaReq s.regs.dma s.geom.sectorSize g]) ∨
        ∃ d idx ok, d.number = s.regs.drvsel.toNat ∧
          (es = [.dmaReq s.regs.dma s.geom.sectorSize true, .stoRead d idx ok] ∨
           ∃ data, es = [.dmaReq s.regs.dma s.geom.sectorSize true, .stoWrite d idx data ok])) ∧
      (t.regs.lastok = true ↔ ∃ d idx, .stoRead d idx true ∈ es ∨ ∃ data, .stoWrite d idx data true ∈ es))

/-- Each of the five writable registers is changed by its own port only, the drive count by none; a register write does nothing else; no
read returns any of the five (R25, R162). For reads of their own addresses the last rests on decision D3, log entry 10; that a status
read leaves the latch is decision D12, log entry 23. -/
def Obligations.EachRegisterHasOneWriter : Prop :=
  (∀ (i : Instr) (s : State), ∃ t, exec i s = .next t ∧
    t.regs.track = (match i with | .settrk v => v | _ => s.regs.track) ∧
    t.regs.sector = (match i with | .setsec v => v | _ => s.regs.sector) ∧
    t.regs.dmalo = (match i with | .setdmal v => v | _ => s.regs.dmalo) ∧
    t.regs.dmahi = (match i with | .setdmah v => v | _ => s.regs.dmahi) ∧
    t.regs.drvsel = (match i with | .setdrv v => v | _ => s.regs.drvsel) ∧
    t.regs.drvcnt = s.regs.drvcnt ∧
    (i.isOperation = false → t.regs.lastok = s.regs.lastok)) ∧
  (∀ (i : Instr) (v : Byte) (s : State), i ∈ [.settrk v, .setsec v, .setdmal v, .setdmah v, .setdrv v] →
    ∃ r, exec i s = .next { s with regs := r, result := none, pending := s.pending.tail }) ∧
  ∀ (i : Instr) (s : State) (r : Regs), i.isRead = true → r.lastok = s.regs.lastok → r.drvcnt = s.regs.drvcnt →
    ∃ t, exec i s = .next t ∧ exec i { s with regs := r } = .next { t with regs := r }

/-- Only a `DSKRD` with a valid drive and a granted window changes memory, and only inside the window (R34; that a `DSKWR` does not is
decision D10, log entry 20, and that the window ends below 65536 is D8, log entry 5). And memory outside a granted window has no effect
on what any transaction does: with other memory there the same happens, the window holds the same bytes after, and the other memory
stays as it is. -/
def Obligations.MemoryIsReachedThroughWindowOnly : Prop :=
  (∀ (i : Instr) (s : State), i.wellFormed = true → ∃ t, exec i s = .next t ∧
    ∀ x, Memory.read t.mem x ≠ Memory.read s.mem x →
      i = .dskrd ∧ s.regs.drvsel.toNat < s.regs.drvcnt.value ∧ s.now.grant = true ∧
      s.regs.dma.toNat ≤ x ∧ x < s.regs.dma.toNat + s.geom.sectorSize ∧ x < 65536) ∧
  ∀ (i : Instr) (s : State) (m : Memory),
    (i.isOperation = true → s.regs.drvsel.toNat < s.regs.drvcnt.value → s.granted s.regs.dma s.geom.sectorSize = true →
      ∀ k < s.geom.sectorSize, Memory.read m (s.regs.dma.toNat + k) = Memory.read s.mem (s.regs.dma.toNat + k)) →
    ∃ t m', exec i s = .next t ∧ exec i { s with mem := m } = .next { t with mem := m' } ∧
      ∀ x, Memory.read m' x =
        if i.isOperation = true ∧ s.regs.drvsel.toNat < s.regs.drvcnt.value ∧ s.granted s.regs.dma s.geom.sectorSize = true ∧
            s.regs.dma.toNat ≤ x ∧ x < s.regs.dma.toNat + s.geom.sectorSize
        then Memory.read t.mem x else Memory.read m x

/-- Only a `DSKWR` with a valid drive and a granted window changes what a store holds, only on the selected drive and only at the
sector addressed (R60 (f), R146, R149; log entry 26 for the other store). That a `DSKRD` changes nothing a store holds is log entry
6. -/
def Obligations.StoresChangeBySelectedWriteOnly : Prop :=
  ∀ (i : Instr) (s : State), i.wellFormed = true → ∃ t, exec i s = .next t ∧
    ∀ (d : Drive) (j : Nat), tableGet (t.store d).sectors j ≠ tableGet (s.store d).sectors j →
      i = .dskwr ∧ s.regs.drvsel.toNat = d.number ∧ d.number < s.regs.drvcnt.value ∧
      s.granted s.regs.dma s.geom.sectorSize = true ∧ j = s.sectorIndex

/-! ## Reset -/

/-- Reset (R200 to R202; decision D5): from any inputs, the drive count is 2 if the secondary store is available and else 1, the other
registers have their `RESET_` values, the one call made is the query, and the collaborators' state is untouched. `State.reset` is this
with the values log entries 1, 2, 3, 27 and 28 name, with no transaction presented (log entry 9) and running (log entry 15); the statement holds for every other value too. -/
def Obligations.ResetSamplesDriveCount : Prop :=
  ∀ r : ResetInputs,
    (State.resetWith r).regs = ⟨r.track, r.sector, r.dmalo, r.dmahi, r.drvsel, r.lastok, if r.available then .two else .one⟩ ∧
    (State.resetWith r).events = [.stoAvail .secondary r.available] ∧
    (State.resetWith r).mem = r.mem ∧ (State.resetWith r).primary = r.primary ∧ (State.resetWith r).secondary = r.secondary ∧
    (State.resetWith r).console = r.console ∧ (State.resetWith r).shutdownRequested = r.shutdownRequested ∧
    (State.resetWith r).pending = [] ∧ (State.resetWith r).stopped = false ∧ State.reset = State.resetWith ResetInputs.chosen

/-- The machine is sound after reset: after `State.reset`, and after a reset with any `RESET_` values that finds sound parameters
and collaborators. -/
def Obligations.ResetStateIsSound : Prop :=
  State.reset.Inv ∧
  ∀ r : ResetInputs, r.geom.wf → Memory.wf r.mem → r.primary.wf r.geom → r.secondary.wf r.geom → (State.resetWith r).Inv

/-! ## Whole runs -/

/-- Every step from a sound state gives a sound state: the parameters stay in their bounds (R8), the memory keeps its canonical
form inside 16 bits (R34, R55), and each store keeps whole sectors at indices the block can form (R35, R56) and does not reject (R61,
log entry 28). -/
def Obligations.SoundStateStaysSound : Prop :=
  ∀ s t : State, s.Inv → step s = .next t → t.Inv

/-- The write/read round trip law (R61, R145, R146; the store's contract is log entry 6). A `DSKWR` whose status is OK, then any
steps in which the same store's same sector is not written again, then a `DSKRD` of that sector on that drive into any granted
window: the read's status is OK and the window holds, byte for byte, what the written window held. -/
def Obligations.WriteThenReadRoundTrips : Prop :=
  ∀ (s t u : State) (d : Drive) (ww wr : TWord) (restw restr : List CpuAction) (es : List Event),
    s.stopped = false → s.pending = .bus ww :: restw → decode ww = .dskwr → s.regs.drvsel.toNat = d.number →
    step s = .next t → t.regs.lastok = true →
    Reaches t u → u.events = t.events ++ es → (∀ data ok, .stoWrite d s.sectorIndex data ok ∉ es) →
    u.stopped = false → u.pending = .bus wr :: restr → decode wr = .dskrd → u.regs.drvsel.toNat = d.number → u.sectorIndex = s.sectorIndex →
    u.land.now.grant = true → u.regs.dma.toNat + u.geom.sectorSize ≤ 65536 →
    ∃ v, step u = .next v ∧ v.regs.lastok = true ∧
      ∀ k < s.geom.sectorSize, Memory.read v.mem (u.regs.dma.toNat + k) = Memory.read s.mem (s.regs.dma.toNat + k)

/-! ## Rejected indices and interrupted saves -/

/-- For an index the store rejects both calls fail (R61, R60 (b); log entry 28): a `DSKRD` and a `DSKWR` there, on a valid drive with a
granted window, latch failure. The read leaves in the window what the store put there (log entry 7) and nothing else in memory changes;
the write leaves memory, the other sectors and the other store as they were (log entries 6, 17, 20, 26). Which indices a store rejects
never changes. -/
def Obligations.RejectedIndexFailsBothCalls : Prop :=
  (∀ (s : State) (d : Drive) (idx : Nat), s.regs.drvsel.toNat = d.number → d.number < s.regs.drvcnt.value →
    s.now.grant = true → s.regs.dma.toNat + s.geom.sectorSize ≤ 65536 →
    idx = s.geom.sectorsPerTrack * s.regs.track.toNat + s.regs.sector.toNat → idx ∈ (s.store d).rejects →
    (∃ m, exec .dskrd s =
        .next { s with regs := { s.regs with lastok := false }, mem := m,
                       events := s.events ++ [.dmaReq s.regs.dma s.geom.sectorSize true, .stoRead d idx false],
                       result := none, pending := s.pending.tail } ∧
      (∀ k < s.geom.sectorSize, Memory.read m (s.regs.dma.toNat + k) =
        if k < s.now.readData.length then s.now.readData.getD k 0#8 else Memory.read s.mem (s.regs.dma.toNat + k)) ∧
      ∀ x, (x < s.regs.dma.toNat ∨ s.regs.dma.toNat + s.geom.sectorSize ≤ x) → Memory.read m x = Memory.read s.mem x) ∧
    ∃ t, exec .dskwr s = .next t ∧
      t = { s with regs := { s.regs with lastok := false }, primary := t.primary, secondary := t.secondary,
                   events := s.events ++ [.dmaReq s.regs.dma s.geom.sectorSize true,
                     .stoWrite d idx (memRead s.mem s.regs.dma.toNat s.geom.sectorSize) false],
                   result := none, pending := s.pending.tail } ∧
      (∀ j, tableGet (t.store d).sectors j = if j = idx then none else tableGet (s.store d).sectors j) ∧
      ∀ e, e ≠ d → t.store e = s.store e) ∧
  ∀ (s t : State) (d : Drive), Reaches s t → (t.store d).rejects = (s.store d).rejects

/-- A save is not atomic across the two stores (R171, U6; log entry 15): the machine may stop after the primary's save, before the
secondary is asked or before its save. Then the primary is saved and the secondary is as it was, the transaction is not complete, and
the machine stays as it is for ever. -/
def Obligations.SaveCanStopBetweenTheStores : Prop :=
  (∀ s : State, s.now.saveStop = .beforeQuery → exec .ctlsave s =
    .next { s with primary := { s.primary with unsaved := false }, events := s.events ++ [.stoSave .primary], stopped := true }) ∧
  (∀ s : State, s.now.saveStop = .beforeSecondSave → s.now.available = true → exec .ctlsave s =
    .next { s with primary := { s.primary with unsaved := false },
                   events := s.events ++ [.stoSave .primary, .stoAvail .secondary true], stopped := true }) ∧
  ∀ s t : State, s.stopped = true → Reaches s t → t = s
end

