-- ==== Sys2Proof/Laws/Decode.lean ====
section
/-! SUPPORT. The fields of a transaction word that was packed, and the table's masks as conditions on the fields. -/

namespace Sys2Proof

variable (w : TWord) (p : Port) (v lo : Byte)

@[simp] theorem inWord_isWrite : (inWord p).isWrite = false := by
  simp only [TWord.isWrite, inWord, BitVec.getLsbD_append]; rfl

@[simp] theorem outWord_isWrite : (outWord p v).isWrite = true := by
  simp only [TWord.isWrite, outWord, BitVec.getLsbD_append]; rfl

@[simp] theorem inWord_port : (inWord p).port = p := by
  refine BitVec.eq_of_getLsbD_eq fun i hi => ?_
  simp only [TWord.port, inWord, BitVec.getLsbD_extractLsb', BitVec.getLsbD_append]
  grind

@[simp] theorem outWord_port : (outWord p v).port = p := by
  refine BitVec.eq_of_getLsbD_eq fun i hi => ?_
  simp only [TWord.port, outWord, BitVec.getLsbD_extractLsb', BitVec.getLsbD_append]
  grind

@[simp] theorem inWord_data : (inWord p).data = 0#8 := by
  refine BitVec.eq_of_getLsbD_eq fun i hi => ?_
  simp only [TWord.data, inWord, BitVec.getLsbD_extractLsb', BitVec.getLsbD_append]
  grind

@[simp] theorem outWord_data : (outWord p v).data = v := by
  refine BitVec.eq_of_getLsbD_eq fun i hi => ?_
  simp only [TWord.data, outWord, BitVec.getLsbD_extractLsb', BitVec.getLsbD_append]
  grind

@[simp] theorem lo8_canonicalPort : lo8 (canonicalPort lo) = lo := by
  refine BitVec.eq_of_getLsbD_eq fun i hi => ?_
  simp only [lo8, canonicalPort, BitVec.getLsbD_extractLsb', BitVec.getLsbD_append]
  grind

/-- The 9-bit mask of a port row fixes the direction and the low port byte (R83). -/
theorem mask_port_row (d : Bool) :
    w &&& 0x100FF00#25 = BitVec.ofBool d ++ 0#8 ++ lo ++ 0#8 ↔ w.isWrite = d ∧ lo8 w.port = lo := by
  constructor
  · intro h
    have hb : ∀ i, (w &&& 0x100FF00#25).getLsbD i = (BitVec.ofBool d ++ 0#8 ++ lo ++ 0#8).getLsbD i := fun i => by rw [h]
    refine ⟨?_, BitVec.eq_of_getLsbD_eq fun i hi => ?_⟩
    · have := hb 24
      simp only [BitVec.getLsbD_append, BitVec.getLsbD_and] at this
      simpa [TWord.isWrite] using this
    · have := hb (8 + i)
      simp only [lo8, TWord.port, BitVec.getLsbD_extractLsb', BitVec.getLsbD_append, BitVec.getLsbD_and] at this ⊢
      interval_cases i <;> simpa using this
  · rintro ⟨rfl, rfl⟩
    refine BitVec.eq_of_getLsbD_eq fun i hi => ?_
    simp only [lo8, TWord.port, TWord.isWrite, BitVec.getLsbD_extractLsb', BitVec.getLsbD_append, BitVec.getLsbD_and]
    interval_cases i <;> simp

/-- The 17-bit mask of a command row fixes the data byte too (R83). -/
theorem mask_command_row (d : Bool) :
    w &&& 0x100FFFF#25 = BitVec.ofBool d ++ 0#8 ++ lo ++ v ↔ w.isWrite = d ∧ lo8 w.port = lo ∧ w.data = v := by
  constructor
  · intro h
    have hb : ∀ i, (w &&& 0x100FFFF#25).getLsbD i = (BitVec.ofBool d ++ 0#8 ++ lo ++ v).getLsbD i := fun i => by rw [h]
    refine ⟨?_, BitVec.eq_of_getLsbD_eq fun i hi => ?_, BitVec.eq_of_getLsbD_eq fun i hi => ?_⟩
    · have := hb 24
      simp only [BitVec.getLsbD_append, BitVec.getLsbD_and] at this
      simpa [TWord.isWrite] using this
    · have := hb (8 + i)
      simp only [lo8, TWord.port, BitVec.getLsbD_extractLsb', BitVec.getLsbD_append, BitVec.getLsbD_and] at this ⊢
      interval_cases i <;> simpa using this
    · have := hb i
      simp only [TWord.data, BitVec.getLsbD_extractLsb', BitVec.getLsbD_append, BitVec.getLsbD_and] at this ⊢
      interval_cases i <;> simpa using this
  · rintro ⟨rfl, rfl, rfl⟩
    refine BitVec.eq_of_getLsbD_eq fun i hi => ?_
    simp only [lo8, TWord.port, TWord.isWrite, TWord.data, BitVec.getLsbD_extractLsb', BitVec.getLsbD_append,
      BitVec.getLsbD_and]
    interval_cases i <;> simp

/-- The 1-bit mask of an unmapped row fixes the direction (R83). -/
theorem mask_direction_row (d : Bool) : w &&& 0x1000000#25 = BitVec.ofBool d ++ 0#24 ↔ w.isWrite = d := by
  constructor
  · intro h
    have := congrArg (fun x => BitVec.getLsbD x 24) h
    simp only [BitVec.getLsbD_append, BitVec.getLsbD_and] at this
    simpa [TWord.isWrite] using this
  · rintro rfl
    refine BitVec.eq_of_getLsbD_eq fun i hi => ?_
    simp only [TWord.isWrite, BitVec.getLsbD_append, BitVec.getLsbD_and]
    interval_cases i <;> simp

/-! ## The rows of the table that match a word -/

/-- Filtering is choosing by the list of answers. -/
theorem filter_eq_zip_filterMap {α : Type} (f : α → Bool) (l : List α) :
    l.filter f = (l.zip (l.map f)).filterMap fun x => if x.2 then some x.1 else none := by
  induction l with
  | nil => rfl
  | cons a l ih => cases h : f a <;> simp [h, ih]

theorem port_row {val : TWord} (d : Bool) (h : val = BitVec.ofBool d ++ 0#8 ++ lo ++ 0#8) :
    (w &&& 0x100FF00#25 = val) = (w.isWrite = d ∧ lo8 w.port = lo) := by
  subst h; exact propext (mask_port_row w lo d)

theorem command_row {val : TWord} (d : Bool) (h : val = BitVec.ofBool d ++ 0#8 ++ lo ++ v) :
    (w &&& 0x100FFFF#25 = val) = (w.isWrite = d ∧ lo8 w.port = lo ∧ w.data = v) := by
  subst h; exact propext (mask_command_row w v lo d)

theorem direction_row {val : TWord} (d : Bool) (h : val = BitVec.ofBool d ++ 0#24) :
    (w &&& 0x1000000#25 = val) = (w.isWrite = d) := by
  subst h; exact propext (mask_direction_row w d)

/-- Which of the eighteen rows match, in the table's order, as conditions on the word's fields. -/
def rowAnswers (d : Bool) (l v : Byte) : List Bool :=
  [decide (d = false ∧ l = 0x00#8), decide (d = false ∧ l = 0x01#8), decide (d = true ∧ l = 0x02#8),
   decide (d = true ∧ l = 0x10#8), decide (d = true ∧ l = 0x11#8), decide (d = true ∧ l = 0x12#8),
   decide (d = true ∧ l = 0x13#8), decide (d = true ∧ l = 0x14#8 ∧ v = 0x01#8), decide (d = true ∧ l = 0x14#8 ∧ v = 0x02#8),
   decide (d = true ∧ l = 0x14#8), decide (d = false ∧ l = 0x15#8), decide (d = false ∧ l = 0x16#8),
   decide (d = true ∧ l = 0x17#8), decide (d = true ∧ l = 0xE0#8 ∧ v = 0x53#8), decide (d = true ∧ l = 0xE0#8 ∧ v = 0x51#8),
   decide (d = true ∧ l = 0xE0#8), decide (d = false), decide (d = true)]

theorem opcodeTable_matches :
    opcodeTable.map (fun r => r.matchesWord w) = rowAnswers w.isWrite (lo8 w.port) w.data := by
  have beq : ∀ a b : TWord, (a == b) = decide (a = b) := fun _ _ => rfl
  simp only [opcodeTable, List.map_cons, List.map_nil, TableRow.matchesWord, beq, rowAnswers,
    port_row w 0x00#8 (val := 0x0000000#25) false rfl, port_row w 0x01#8 (val := 0x0000100#25) false rfl,
    port_row w 0x02#8 (val := 0x1000200#25) true rfl, port_row w 0x10#8 (val := 0x1001000#25) true rfl,
    port_row w 0x11#8 (val := 0x1001100#25) true rfl, port_row w 0x12#8 (val := 0x1001200#25) true rfl,
    port_row w 0x13#8 (val := 0x1001300#25) true rfl, port_row w 0x14#8 (val := 0x1001400#25) true rfl,
    port_row w 0x15#8 (val := 0x0001500#25) false rfl, port_row w 0x16#8 (val := 0x0001600#25) false rfl,
    port_row w 0x17#8 (val := 0x1001700#25) true rfl, port_row w 0xE0#8 (val := 0x100E000#25) true rfl,
    command_row w 0x01#8 0x14#8 (val := 0x1001401#25) true rfl, command_row w 0x02#8 0x14#8 (val := 0x1001402#25) true rfl,
    command_row w 0x53#8 0xE0#8 (val := 0x100E053#25) true rfl, command_row w 0x51#8 0xE0#8 (val := 0x100E051#25) true rfl,
    direction_row w (val := 0x0000000#25) false rfl, direction_row w (val := 0x1000000#25) true rfl]

theorem matchingRows_eq :
    matchingRows w = (opcodeTable.zip (rowAnswers w.isWrite (lo8 w.port) w.data)).filterMap
      fun x => if x.2 then some x.1 else none := by
  rw [← opcodeTable_matches]
  exact filter_eq_zip_filterMap _ _

end Sys2Proof
end

