-- ==== Sys2Proof/Laws/Memory.lean ====
section
/-! SUPPORT. Sorted tables and memory: read after write, the canonical form is kept, and equal memories are equal lists. -/

namespace Sys2Proof.Machine

section tables

variable {α : Type} (t : List (Nat × α)) (k j : Nat) (x : α)

@[simp] theorem tableGet_nil : tableGet ([] : List (Nat × α)) k = none := rfl

theorem tableGet_cons (c : Nat × α) : tableGet (c :: t) k = if c.1 = k then some c.2 else tableGet t k := rfl

theorem tableGet_put : tableGet (tablePut t k x) j = if j = k then some x else tableGet t j := by
  induction t with
  | nil => simp [tablePut, tableGet_cons, eq_comm]
  | cons c t ih =>
    simp only [tablePut]
    split
    · simp [tableGet_cons, eq_comm]
    · split
      · simp only [tableGet_cons]
        grind
      · simp only [tableGet_cons, ih]
        grind

theorem tableGet_erase : tableGet (tableErase t k) j = if j = k then none else tableGet t j := by
  induction t with
  | nil => simp [tableErase]
  | cons c t ih =>
    simp only [tableErase, List.filter_cons] at ih ⊢
    split
    · simp only [tableGet_cons, ih]
      grind
    · simp only [ih, tableGet_cons]
      grind

/-- A listed entry is a member of the table. -/
theorem mem_of_tableGet {t : List (Nat × α)} {k : Nat} {x : α} (h : tableGet t k = some x) : (k, x) ∈ t := by
  induction t with
  | nil => simp at h
  | cons c t ih =>
    rw [tableGet_cons] at h
    split at h
    · cases h; subst k; exact List.mem_cons_self
    · exact List.mem_cons_of_mem _ (ih h)

/-- In a sorted table a member is the entry of its key. -/
theorem tableGet_of_mem {t : List (Nat × α)} {k : Nat} {x : α} (hs : tableSorted t) (h : (k, x) ∈ t) :
    tableGet t k = some x := by
  induction t with
  | nil => simp at h
  | cons c t ih =>
    rw [tableGet_cons]
    rcases List.mem_cons.1 h with rfl | h
    · simp
    · have := (List.pairwise_cons.1 hs).1 _ h
      rw [if_neg (by omega), ih (List.pairwise_cons.1 hs).2 h]

theorem mem_tablePut {c : Nat × α} (h : c ∈ tablePut t k x) : c = (k, x) ∨ c ∈ t := by
  induction t with
  | nil => simpa [tablePut] using h
  | cons e t ih =>
    simp only [tablePut] at h
    split at h
    · simpa using h
    · split at h <;> grind

theorem tablePut_sorted (h : tableSorted t) : tableSorted (tablePut t k x) := by
  induction t with
  | nil => simp [tablePut]
  | cons e t ih =>
    obtain ⟨he, ht⟩ := List.pairwise_cons.1 h
    simp only [tablePut]
    split
    · refine List.pairwise_cons.2 ⟨fun c hc => ?_, h⟩
      rcases List.mem_cons.1 hc with rfl | hc
      · assumption
      · have := he c hc; omega
    · split
      · next heq => exact List.pairwise_cons.2 ⟨fun c hc => by have := he c hc; simp only; omega, ht⟩
      · refine List.pairwise_cons.2 ⟨fun c hc => ?_, ih ht⟩
        rcases mem_tablePut t k x hc with rfl | hc
        · simp only; omega
        · exact he c hc

theorem tableErase_sorted (h : tableSorted t) : tableSorted (tableErase t k) := List.Pairwise.filter _ h

theorem mem_tableErase {c : Nat × α} (h : c ∈ tableErase t k) : c ∈ t := List.mem_of_mem_filter h

/-- Two sorted tables with the same entries are the same list. -/
theorem tableSorted_ext {t u : List (Nat × α)} (ht : tableSorted t) (hu : tableSorted u)
    (h : ∀ k, tableGet t k = tableGet u k) : t = u := by
  have irr : ∀ {v : List (Nat × α)}, tableSorted v → v.Nodup := fun hv =>
    hv.imp fun {a b} hab heq => by rw [heq] at hab; exact Nat.lt_irrefl _ hab
  refine List.Perm.eq_of_pairwise (le := fun c e => c.1 < e.1) (fun a b _ _ hab hba => absurd (Nat.lt_trans hab hba) (Nat.lt_irrefl _)) ht hu
    ((List.perm_ext_iff_of_nodup (irr ht) (irr hu)).2 fun c => ⟨fun hc => ?_, fun hc => ?_⟩)
  · exact mem_of_tableGet (h c.1 ▸ tableGet_of_mem ht hc)
  · exact mem_of_tableGet ((h c.1).symm ▸ tableGet_of_mem hu hc)

end tables

variable (m : Memory) (a x n : Nat) (b : Byte)

/-- Read after write: the byte written at its address, every other address as before. -/
theorem Memory.read_write : Memory.read (Memory.write m a b) x = if x = a then b else Memory.read m x := by
  unfold Memory.read Memory.write
  split
  · next hb => rw [tableGet_erase]; split <;> simp [hb]
  · rw [tableGet_put]; split <;> simp

theorem Memory.write_wf (h : Memory.wf m) (ha : a < 65536) : Memory.wf (Memory.write m a b) := by
  unfold Memory.write
  split
  · exact ⟨tableErase_sorted _ _ h.1, fun c hc => h.2 c (mem_tableErase _ _ hc)⟩
  · next hb =>
    refine ⟨tablePut_sorted _ _ _ h.1, fun c hc => ?_⟩
    rcases mem_tablePut _ _ _ hc with rfl | hc
    · exact ⟨ha, hb⟩
    · exact h.2 c hc

/-- Canonical memories that read alike are equal data. -/
theorem Memory.ext_of_read {m m' : Memory} (h : Memory.wf m) (h' : Memory.wf m')
    (hr : ∀ x, Memory.read m x = Memory.read m' x) : m = m' := by
  refine tableSorted_ext h.1 h'.1 fun k => ?_
  have hk := hr k
  unfold Memory.read at hk
  have key : ∀ {u : Memory}, Memory.wf u → tableGet u k ≠ some unlistedByte := fun hu he =>
    (hu.2 _ (mem_of_tableGet he)).2 rfl
  have h1 := key h
  have h2 := key h'
  cases e : tableGet m k <;> cases e' : tableGet m' k <;> simp_all

@[simp] theorem memRead_length : (memRead m a n).length = n := by simp [memRead]

theorem memRead_getElem? (k : Nat) (h : k < n) : (memRead m a n)[k]? = some (Memory.read m (a + k)) := by
  simp [memRead, h]

/-- Reading a window depends on the window's bytes alone. -/
theorem memRead_congr {m m' : Memory} (h : ∀ k < n, Memory.read m (a + k) = Memory.read m' (a + k)) :
    memRead m a n = memRead m' a n :=
  List.map_congr_left fun k hk => h k (List.mem_range.1 hk)

/-- What a memory reads as after a list of bytes has been written at `a`. -/
theorem memRead_byte_memWrite (v : List Byte) :
    Memory.read (memWrite m a v) x = if a ≤ x ∧ x < a + v.length then v.getD (x - a) 0#8 else Memory.read m x := by
  induction v generalizing m a with
  | nil => simp [memWrite]
  | cons b v ih =>
    simp only [memWrite, ih, List.length_cons, Memory.read_write]
    by_cases hx : x = a
    · subst hx
      rw [if_neg (by omega), if_pos rfl, if_pos (by simp)]; simp
    · by_cases hin : a + 1 ≤ x ∧ x < a + 1 + v.length
      · rw [if_pos hin, if_pos (by omega)]
        obtain ⟨k, rfl⟩ : ∃ k, x = a + 1 + k := ⟨x - (a + 1), by omega⟩
        simp [show a + 1 + k - a = k + 1 by omega]
      · rw [if_neg hin, if_neg hx, if_neg (by omega)]

theorem memWrite_wf (v : List Byte) (h : Memory.wf m) (ha : a + v.length ≤ 65536) : Memory.wf (memWrite m a v) := by
  induction v generalizing m a with
  | nil => exact h
  | cons b v ih =>
    simp only [List.length_cons] at ha
    exact ih _ _ (Memory.write_wf _ _ _ h (by omega)) (by omega)

/-- The bytes just written are the bytes read back. -/
theorem memRead_memWrite (v : List Byte) : memRead (memWrite m a v) a v.length = v := by
  refine List.ext_getElem? fun k => ?_
  by_cases hk : k < v.length
  · rw [memRead_getElem? _ _ _ _ hk, memRead_byte_memWrite, if_pos (by omega)]
    simp [hk]
  · simp [memRead, hk]

/-! ## The window a store fills -/

@[simp] theorem overWindow_length (old data : List Byte) : (overWindow old data).length = old.length := by
  simp [overWindow]; omega

/-- Bytes for the whole window replace it. -/
theorem overWindow_of_length_eq {old data : List Byte} (h : data.length = old.length) : overWindow old data = data := by
  simp [overWindow, ← h]

/-- Byte `k` of the window: the store's byte where it put one, else the old one. -/
theorem overWindow_getD (old data : List Byte) (k : Nat) (h : k < old.length) :
    (overWindow old data).getD k 0#8 = if k < data.length then data.getD k 0#8 else old.getD k 0#8 := by
  unfold overWindow
  by_cases hk : k < data.length
  · rw [if_pos hk]; simp [List.getElem?_append, h, hk]
  · rw [if_neg hk]
    simp only [List.getD_eq_getElem?_getD, List.getElem?_append, List.length_take, List.getElem?_drop]
    rw [if_neg (by omega), show data.length + (k - min old.length data.length) = k by omega]

end Sys2Proof.Machine
end

