-- ==== Sys2Proof/Laws/State.lean ====
section
/-! SUPPORT. What each update of the state does to each field: one simp lemma per field and update. -/

namespace Sys2Proof.Machine

variable (s : State)

/-! ### `State.setTrack` -/

@[simp] theorem State.setTrack_regs (v : Byte) : (s.setTrack v).regs = { s.regs with track := v } := rfl
@[simp] theorem State.setTrack_geom (v : Byte) : (s.setTrack v).geom = s.geom := rfl
@[simp] theorem State.setTrack_mem (v : Byte) : (s.setTrack v).mem = s.mem := rfl
@[simp] theorem State.setTrack_primary (v : Byte) : (s.setTrack v).primary = s.primary := rfl
@[simp] theorem State.setTrack_secondary (v : Byte) : (s.setTrack v).secondary = s.secondary := rfl
@[simp] theorem State.setTrack_console (v : Byte) : (s.setTrack v).console = s.console := rfl
@[simp] theorem State.setTrack_shutdownRequested (v : Byte) : (s.setTrack v).shutdownRequested = s.shutdownRequested := rfl
@[simp] theorem State.setTrack_pending (v : Byte) : (s.setTrack v).pending = s.pending := rfl
@[simp] theorem State.setTrack_result (v : Byte) : (s.setTrack v).result = s.result := rfl
@[simp] theorem State.setTrack_events (v : Byte) : (s.setTrack v).events = s.events := rfl
@[simp] theorem State.setTrack_now (v : Byte) : (s.setTrack v).now = s.now := rfl
@[simp] theorem State.setTrack_later (v : Byte) : (s.setTrack v).later = s.later := rfl
@[simp] theorem State.setTrack_draws (v : Byte) : (s.setTrack v).draws = s.draws := rfl
@[simp] theorem State.setTrack_stopped (v : Byte) : (s.setTrack v).stopped = s.stopped := rfl

/-! ### `State.setSector` -/

@[simp] theorem State.setSector_regs (v : Byte) : (s.setSector v).regs = { s.regs with sector := v } := rfl
@[simp] theorem State.setSector_geom (v : Byte) : (s.setSector v).geom = s.geom := rfl
@[simp] theorem State.setSector_mem (v : Byte) : (s.setSector v).mem = s.mem := rfl
@[simp] theorem State.setSector_primary (v : Byte) : (s.setSector v).primary = s.primary := rfl
@[simp] theorem State.setSector_secondary (v : Byte) : (s.setSector v).secondary = s.secondary := rfl
@[simp] theorem State.setSector_console (v : Byte) : (s.setSector v).console = s.console := rfl
@[simp] theorem State.setSector_shutdownRequested (v : Byte) : (s.setSector v).shutdownRequested = s.shutdownRequested := rfl
@[simp] theorem State.setSector_pending (v : Byte) : (s.setSector v).pending = s.pending := rfl
@[simp] theorem State.setSector_result (v : Byte) : (s.setSector v).result = s.result := rfl
@[simp] theorem State.setSector_events (v : Byte) : (s.setSector v).events = s.events := rfl
@[simp] theorem State.setSector_now (v : Byte) : (s.setSector v).now = s.now := rfl
@[simp] theorem State.setSector_later (v : Byte) : (s.setSector v).later = s.later := rfl
@[simp] theorem State.setSector_draws (v : Byte) : (s.setSector v).draws = s.draws := rfl
@[simp] theorem State.setSector_stopped (v : Byte) : (s.setSector v).stopped = s.stopped := rfl

/-! ### `State.setDmalo` -/

@[simp] theorem State.setDmalo_regs (v : Byte) : (s.setDmalo v).regs = { s.regs with dmalo := v } := rfl
@[simp] theorem State.setDmalo_geom (v : Byte) : (s.setDmalo v).geom = s.geom := rfl
@[simp] theorem State.setDmalo_mem (v : Byte) : (s.setDmalo v).mem = s.mem := rfl
@[simp] theorem State.setDmalo_primary (v : Byte) : (s.setDmalo v).primary = s.primary := rfl
@[simp] theorem State.setDmalo_secondary (v : Byte) : (s.setDmalo v).secondary = s.secondary := rfl
@[simp] theorem State.setDmalo_console (v : Byte) : (s.setDmalo v).console = s.console := rfl
@[simp] theorem State.setDmalo_shutdownRequested (v : Byte) : (s.setDmalo v).shutdownRequested = s.shutdownRequested := rfl
@[simp] theorem State.setDmalo_pending (v : Byte) : (s.setDmalo v).pending = s.pending := rfl
@[simp] theorem State.setDmalo_result (v : Byte) : (s.setDmalo v).result = s.result := rfl
@[simp] theorem State.setDmalo_events (v : Byte) : (s.setDmalo v).events = s.events := rfl
@[simp] theorem State.setDmalo_now (v : Byte) : (s.setDmalo v).now = s.now := rfl
@[simp] theorem State.setDmalo_later (v : Byte) : (s.setDmalo v).later = s.later := rfl
@[simp] theorem State.setDmalo_draws (v : Byte) : (s.setDmalo v).draws = s.draws := rfl
@[simp] theorem State.setDmalo_stopped (v : Byte) : (s.setDmalo v).stopped = s.stopped := rfl

/-! ### `State.setDmahi` -/

@[simp] theorem State.setDmahi_regs (v : Byte) : (s.setDmahi v).regs = { s.regs with dmahi := v } := rfl
@[simp] theorem State.setDmahi_geom (v : Byte) : (s.setDmahi v).geom = s.geom := rfl
@[simp] theorem State.setDmahi_mem (v : Byte) : (s.setDmahi v).mem = s.mem := rfl
@[simp] theorem State.setDmahi_primary (v : Byte) : (s.setDmahi v).primary = s.primary := rfl
@[simp] theorem State.setDmahi_secondary (v : Byte) : (s.setDmahi v).secondary = s.secondary := rfl
@[simp] theorem State.setDmahi_console (v : Byte) : (s.setDmahi v).console = s.console := rfl
@[simp] theorem State.setDmahi_shutdownRequested (v : Byte) : (s.setDmahi v).shutdownRequested = s.shutdownRequested := rfl
@[simp] theorem State.setDmahi_pending (v : Byte) : (s.setDmahi v).pending = s.pending := rfl
@[simp] theorem State.setDmahi_result (v : Byte) : (s.setDmahi v).result = s.result := rfl
@[simp] theorem State.setDmahi_events (v : Byte) : (s.setDmahi v).events = s.events := rfl
@[simp] theorem State.setDmahi_now (v : Byte) : (s.setDmahi v).now = s.now := rfl
@[simp] theorem State.setDmahi_later (v : Byte) : (s.setDmahi v).later = s.later := rfl
@[simp] theorem State.setDmahi_draws (v : Byte) : (s.setDmahi v).draws = s.draws := rfl
@[simp] theorem State.setDmahi_stopped (v : Byte) : (s.setDmahi v).stopped = s.stopped := rfl

/-! ### `State.setDrvsel` -/

@[simp] theorem State.setDrvsel_regs (v : Byte) : (s.setDrvsel v).regs = { s.regs with drvsel := v } := rfl
@[simp] theorem State.setDrvsel_geom (v : Byte) : (s.setDrvsel v).geom = s.geom := rfl
@[simp] theorem State.setDrvsel_mem (v : Byte) : (s.setDrvsel v).mem = s.mem := rfl
@[simp] theorem State.setDrvsel_primary (v : Byte) : (s.setDrvsel v).primary = s.primary := rfl
@[simp] theorem State.setDrvsel_secondary (v : Byte) : (s.setDrvsel v).secondary = s.secondary := rfl
@[simp] theorem State.setDrvsel_console (v : Byte) : (s.setDrvsel v).console = s.console := rfl
@[simp] theorem State.setDrvsel_shutdownRequested (v : Byte) : (s.setDrvsel v).shutdownRequested = s.shutdownRequested := rfl
@[simp] theorem State.setDrvsel_pending (v : Byte) : (s.setDrvsel v).pending = s.pending := rfl
@[simp] theorem State.setDrvsel_result (v : Byte) : (s.setDrvsel v).result = s.result := rfl
@[simp] theorem State.setDrvsel_events (v : Byte) : (s.setDrvsel v).events = s.events := rfl
@[simp] theorem State.setDrvsel_now (v : Byte) : (s.setDrvsel v).now = s.now := rfl
@[simp] theorem State.setDrvsel_later (v : Byte) : (s.setDrvsel v).later = s.later := rfl
@[simp] theorem State.setDrvsel_draws (v : Byte) : (s.setDrvsel v).draws = s.draws := rfl
@[simp] theorem State.setDrvsel_stopped (v : Byte) : (s.setDrvsel v).stopped = s.stopped := rfl

/-! ### `State.setLastok` -/

@[simp] theorem State.setLastok_regs (ok : Bool) : (s.setLastok ok).regs = { s.regs with lastok := ok } := rfl
@[simp] theorem State.setLastok_geom (ok : Bool) : (s.setLastok ok).geom = s.geom := rfl
@[simp] theorem State.setLastok_mem (ok : Bool) : (s.setLastok ok).mem = s.mem := rfl
@[simp] theorem State.setLastok_primary (ok : Bool) : (s.setLastok ok).primary = s.primary := rfl
@[simp] theorem State.setLastok_secondary (ok : Bool) : (s.setLastok ok).secondary = s.secondary := rfl
@[simp] theorem State.setLastok_console (ok : Bool) : (s.setLastok ok).console = s.console := rfl
@[simp] theorem State.setLastok_shutdownRequested (ok : Bool) : (s.setLastok ok).shutdownRequested = s.shutdownRequested := rfl
@[simp] theorem State.setLastok_pending (ok : Bool) : (s.setLastok ok).pending = s.pending := rfl
@[simp] theorem State.setLastok_result (ok : Bool) : (s.setLastok ok).result = s.result := rfl
@[simp] theorem State.setLastok_events (ok : Bool) : (s.setLastok ok).events = s.events := rfl
@[simp] theorem State.setLastok_now (ok : Bool) : (s.setLastok ok).now = s.now := rfl
@[simp] theorem State.setLastok_later (ok : Bool) : (s.setLastok ok).later = s.later := rfl
@[simp] theorem State.setLastok_draws (ok : Bool) : (s.setLastok ok).draws = s.draws := rfl
@[simp] theorem State.setLastok_stopped (ok : Bool) : (s.setLastok ok).stopped = s.stopped := rfl

/-! ### `State.latchFailure` -/

@[simp] theorem State.latchFailure_regs : (s.latchFailure).regs = { s.regs with lastok := false } := rfl
@[simp] theorem State.latchFailure_geom : (s.latchFailure).geom = s.geom := rfl
@[simp] theorem State.latchFailure_mem : (s.latchFailure).mem = s.mem := rfl
@[simp] theorem State.latchFailure_primary : (s.latchFailure).primary = s.primary := rfl
@[simp] theorem State.latchFailure_secondary : (s.latchFailure).secondary = s.secondary := rfl
@[simp] theorem State.latchFailure_console : (s.latchFailure).console = s.console := rfl
@[simp] theorem State.latchFailure_shutdownRequested : (s.latchFailure).shutdownRequested = s.shutdownRequested := rfl
@[simp] theorem State.latchFailure_pending : (s.latchFailure).pending = s.pending := rfl
@[simp] theorem State.latchFailure_result : (s.latchFailure).result = s.result := rfl
@[simp] theorem State.latchFailure_events : (s.latchFailure).events = s.events := rfl
@[simp] theorem State.latchFailure_now : (s.latchFailure).now = s.now := rfl
@[simp] theorem State.latchFailure_later : (s.latchFailure).later = s.later := rfl
@[simp] theorem State.latchFailure_draws : (s.latchFailure).draws = s.draws := rfl
@[simp] theorem State.latchFailure_stopped : (s.latchFailure).stopped = s.stopped := rfl

/-! ### `State.setMem` -/

@[simp] theorem State.setMem_regs (m : Memory) : (s.setMem m).regs = s.regs := rfl
@[simp] theorem State.setMem_geom (m : Memory) : (s.setMem m).geom = s.geom := rfl
@[simp] theorem State.setMem_mem (m : Memory) : (s.setMem m).mem = m := rfl
@[simp] theorem State.setMem_primary (m : Memory) : (s.setMem m).primary = s.primary := rfl
@[simp] theorem State.setMem_secondary (m : Memory) : (s.setMem m).secondary = s.secondary := rfl
@[simp] theorem State.setMem_console (m : Memory) : (s.setMem m).console = s.console := rfl
@[simp] theorem State.setMem_shutdownRequested (m : Memory) : (s.setMem m).shutdownRequested = s.shutdownRequested := rfl
@[simp] theorem State.setMem_pending (m : Memory) : (s.setMem m).pending = s.pending := rfl
@[simp] theorem State.setMem_result (m : Memory) : (s.setMem m).result = s.result := rfl
@[simp] theorem State.setMem_events (m : Memory) : (s.setMem m).events = s.events := rfl
@[simp] theorem State.setMem_now (m : Memory) : (s.setMem m).now = s.now := rfl
@[simp] theorem State.setMem_later (m : Memory) : (s.setMem m).later = s.later := rfl
@[simp] theorem State.setMem_draws (m : Memory) : (s.setMem m).draws = s.draws := rfl
@[simp] theorem State.setMem_stopped (m : Memory) : (s.setMem m).stopped = s.stopped := rfl

/-! ### `State.emit` -/

@[simp] theorem State.emit_regs (e : Event) : (s.emit e).regs = s.regs := rfl
@[simp] theorem State.emit_geom (e : Event) : (s.emit e).geom = s.geom := rfl
@[simp] theorem State.emit_mem (e : Event) : (s.emit e).mem = s.mem := rfl
@[simp] theorem State.emit_primary (e : Event) : (s.emit e).primary = s.primary := rfl
@[simp] theorem State.emit_secondary (e : Event) : (s.emit e).secondary = s.secondary := rfl
@[simp] theorem State.emit_console (e : Event) : (s.emit e).console = s.console := rfl
@[simp] theorem State.emit_shutdownRequested (e : Event) : (s.emit e).shutdownRequested = s.shutdownRequested := rfl
@[simp] theorem State.emit_pending (e : Event) : (s.emit e).pending = s.pending := rfl
@[simp] theorem State.emit_result (e : Event) : (s.emit e).result = s.result := rfl
@[simp] theorem State.emit_events (e : Event) : (s.emit e).events = s.events ++ [e] := rfl
@[simp] theorem State.emit_now (e : Event) : (s.emit e).now = s.now := rfl
@[simp] theorem State.emit_later (e : Event) : (s.emit e).later = s.later := rfl
@[simp] theorem State.emit_draws (e : Event) : (s.emit e).draws = s.draws := rfl
@[simp] theorem State.emit_stopped (e : Event) : (s.emit e).stopped = s.stopped := rfl

/-! ### `State.complete` -/

@[simp] theorem State.complete_regs (r : Option Byte) : (s.complete r).regs = s.regs := rfl
@[simp] theorem State.complete_geom (r : Option Byte) : (s.complete r).geom = s.geom := rfl
@[simp] theorem State.complete_mem (r : Option Byte) : (s.complete r).mem = s.mem := rfl
@[simp] theorem State.complete_primary (r : Option Byte) : (s.complete r).primary = s.primary := rfl
@[simp] theorem State.complete_secondary (r : Option Byte) : (s.complete r).secondary = s.secondary := rfl
@[simp] theorem State.complete_console (r : Option Byte) : (s.complete r).console = s.console := rfl
@[simp] theorem State.complete_shutdownRequested (r : Option Byte) : (s.complete r).shutdownRequested = s.shutdownRequested := rfl
@[simp] theorem State.complete_pending (r : Option Byte) : (s.complete r).pending = s.pending.tail := rfl
@[simp] theorem State.complete_result (r : Option Byte) : (s.complete r).result = r := rfl
@[simp] theorem State.complete_events (r : Option Byte) : (s.complete r).events = s.events := rfl
@[simp] theorem State.complete_now (r : Option Byte) : (s.complete r).now = s.now := rfl
@[simp] theorem State.complete_later (r : Option Byte) : (s.complete r).later = s.later := rfl
@[simp] theorem State.complete_draws (r : Option Byte) : (s.complete r).draws = s.draws := rfl
@[simp] theorem State.complete_stopped (r : Option Byte) : (s.complete r).stopped = s.stopped := rfl

/-! ### `State.completeWrite` -/

@[simp] theorem State.completeWrite_regs : (s.completeWrite).regs = s.regs := rfl
@[simp] theorem State.completeWrite_geom : (s.completeWrite).geom = s.geom := rfl
@[simp] theorem State.completeWrite_mem : (s.completeWrite).mem = s.mem := rfl
@[simp] theorem State.completeWrite_primary : (s.completeWrite).primary = s.primary := rfl
@[simp] theorem State.completeWrite_secondary : (s.completeWrite).secondary = s.secondary := rfl
@[simp] theorem State.completeWrite_console : (s.completeWrite).console = s.console := rfl
@[simp] theorem State.completeWrite_shutdownRequested : (s.completeWrite).shutdownRequested = s.shutdownRequested := rfl
@[simp] theorem State.completeWrite_pending : (s.completeWrite).pending = s.pending.tail := rfl
@[simp] theorem State.completeWrite_result : (s.completeWrite).result = none := rfl
@[simp] theorem State.completeWrite_events : (s.completeWrite).events = s.events := rfl
@[simp] theorem State.completeWrite_now : (s.completeWrite).now = s.now := rfl
@[simp] theorem State.completeWrite_later : (s.completeWrite).later = s.later := rfl
@[simp] theorem State.completeWrite_draws : (s.completeWrite).draws = s.draws := rfl
@[simp] theorem State.completeWrite_stopped : (s.completeWrite).stopped = s.stopped := rfl

/-! ### `State.completeRead` -/

@[simp] theorem State.completeRead_regs (b : Byte) : (s.completeRead b).regs = s.regs := rfl
@[simp] theorem State.completeRead_geom (b : Byte) : (s.completeRead b).geom = s.geom := rfl
@[simp] theorem State.completeRead_mem (b : Byte) : (s.completeRead b).mem = s.mem := rfl
@[simp] theorem State.completeRead_primary (b : Byte) : (s.completeRead b).primary = s.primary := rfl
@[simp] theorem State.completeRead_secondary (b : Byte) : (s.completeRead b).secondary = s.secondary := rfl
@[simp] theorem State.completeRead_console (b : Byte) : (s.completeRead b).console = s.console := rfl
@[simp] theorem State.completeRead_shutdownRequested (b : Byte) : (s.completeRead b).shutdownRequested = s.shutdownRequested := rfl
@[simp] theorem State.completeRead_pending (b : Byte) : (s.completeRead b).pending = s.pending.tail := rfl
@[simp] theorem State.completeRead_result (b : Byte) : (s.completeRead b).result = some b := rfl
@[simp] theorem State.completeRead_events (b : Byte) : (s.completeRead b).events = s.events := rfl
@[simp] theorem State.completeRead_now (b : Byte) : (s.completeRead b).now = s.now := rfl
@[simp] theorem State.completeRead_later (b : Byte) : (s.completeRead b).later = s.later := rfl
@[simp] theorem State.completeRead_draws (b : Byte) : (s.completeRead b).draws = s.draws := rfl
@[simp] theorem State.completeRead_stopped (b : Byte) : (s.completeRead b).stopped = s.stopped := rfl

/-! ### `State.stop` -/

@[simp] theorem State.stop_regs : (s.stop).regs = s.regs := rfl
@[simp] theorem State.stop_geom : (s.stop).geom = s.geom := rfl
@[simp] theorem State.stop_mem : (s.stop).mem = s.mem := rfl
@[simp] theorem State.stop_primary : (s.stop).primary = s.primary := rfl
@[simp] theorem State.stop_secondary : (s.stop).secondary = s.secondary := rfl
@[simp] theorem State.stop_console : (s.stop).console = s.console := rfl
@[simp] theorem State.stop_shutdownRequested : (s.stop).shutdownRequested = s.shutdownRequested := rfl
@[simp] theorem State.stop_pending : (s.stop).pending = s.pending := rfl
@[simp] theorem State.stop_result : (s.stop).result = s.result := rfl
@[simp] theorem State.stop_events : (s.stop).events = s.events := rfl
@[simp] theorem State.stop_now : (s.stop).now = s.now := rfl
@[simp] theorem State.stop_later : (s.stop).later = s.later := rfl
@[simp] theorem State.stop_draws : (s.stop).draws = s.draws := rfl
@[simp] theorem State.stop_stopped : (s.stop).stopped = true := rfl

/-! ### `State.requestShutdown` -/

@[simp] theorem State.requestShutdown_regs : (s.requestShutdown).regs = s.regs := rfl
@[simp] theorem State.requestShutdown_geom : (s.requestShutdown).geom = s.geom := rfl
@[simp] theorem State.requestShutdown_mem : (s.requestShutdown).mem = s.mem := rfl
@[simp] theorem State.requestShutdown_primary : (s.requestShutdown).primary = s.primary := rfl
@[simp] theorem State.requestShutdown_secondary : (s.requestShutdown).secondary = s.secondary := rfl
@[simp] theorem State.requestShutdown_console : (s.requestShutdown).console = s.console := rfl
@[simp] theorem State.requestShutdown_shutdownRequested : (s.requestShutdown).shutdownRequested = true := rfl
@[simp] theorem State.requestShutdown_pending : (s.requestShutdown).pending = s.pending := rfl
@[simp] theorem State.requestShutdown_result : (s.requestShutdown).result = s.result := rfl
@[simp] theorem State.requestShutdown_events : (s.requestShutdown).events = s.events ++ [.shutdown] := rfl
@[simp] theorem State.requestShutdown_now : (s.requestShutdown).now = s.now := rfl
@[simp] theorem State.requestShutdown_later : (s.requestShutdown).later = s.later := rfl
@[simp] theorem State.requestShutdown_draws : (s.requestShutdown).draws = s.draws := rfl
@[simp] theorem State.requestShutdown_stopped : (s.requestShutdown).stopped = s.stopped := rfl

/-! ### `State.land` -/

@[simp] theorem State.land_regs : (s.land).regs = s.regs := rfl
@[simp] theorem State.land_geom : (s.land).geom = s.geom := rfl
@[simp] theorem State.land_mem : (s.land).mem = s.mem := rfl
@[simp] theorem State.land_primary : (s.land).primary = s.primary := rfl
@[simp] theorem State.land_secondary : (s.land).secondary = s.secondary := rfl
@[simp] theorem State.land_console : (s.land).console = s.console ++ s.nextAnswers.chars := rfl
@[simp] theorem State.land_shutdownRequested : (s.land).shutdownRequested = s.shutdownRequested := rfl
@[simp] theorem State.land_pending : (s.land).pending = s.pending := rfl
@[simp] theorem State.land_result : (s.land).result = s.result := rfl
@[simp] theorem State.land_events : (s.land).events = s.events := rfl
@[simp] theorem State.land_now : (s.land).now = s.nextAnswers := rfl
@[simp] theorem State.land_later : (s.land).later = s.later.tail := rfl
@[simp] theorem State.land_draws : (s.land).draws = s.draws + 1 := rfl
@[simp] theorem State.land_stopped : (s.land).stopped = s.stopped := rfl

/-! ### `State.cpuStore` -/

@[simp] theorem State.cpuStore_regs (a : Addr) (b : Byte) : (s.cpuStore a b).regs = s.regs := rfl
@[simp] theorem State.cpuStore_geom (a : Addr) (b : Byte) : (s.cpuStore a b).geom = s.geom := rfl
@[simp] theorem State.cpuStore_mem (a : Addr) (b : Byte) : (s.cpuStore a b).mem = Memory.write s.mem a.toNat b := rfl
@[simp] theorem State.cpuStore_primary (a : Addr) (b : Byte) : (s.cpuStore a b).primary = s.primary := rfl
@[simp] theorem State.cpuStore_secondary (a : Addr) (b : Byte) : (s.cpuStore a b).secondary = s.secondary := rfl
@[simp] theorem State.cpuStore_console (a : Addr) (b : Byte) : (s.cpuStore a b).console = s.console := rfl
@[simp] theorem State.cpuStore_shutdownRequested (a : Addr) (b : Byte) : (s.cpuStore a b).shutdownRequested = s.shutdownRequested := rfl
@[simp] theorem State.cpuStore_pending (a : Addr) (b : Byte) : (s.cpuStore a b).pending = s.pending.tail := rfl
@[simp] theorem State.cpuStore_result (a : Addr) (b : Byte) : (s.cpuStore a b).result = s.result := rfl
@[simp] theorem State.cpuStore_events (a : Addr) (b : Byte) : (s.cpuStore a b).events = s.events := rfl
@[simp] theorem State.cpuStore_now (a : Addr) (b : Byte) : (s.cpuStore a b).now = s.now := rfl
@[simp] theorem State.cpuStore_later (a : Addr) (b : Byte) : (s.cpuStore a b).later = s.later := rfl
@[simp] theorem State.cpuStore_draws (a : Addr) (b : Byte) : (s.cpuStore a b).draws = s.draws := rfl
@[simp] theorem State.cpuStore_stopped (a : Addr) (b : Byte) : (s.cpuStore a b).stopped = s.stopped := rfl

/-! ### `State.setStore`, `State.saveStore` -/

@[simp] theorem State.setStore_regs (d : Drive) (st : Store) : (s.setStore d st).regs = s.regs := by cases d <;> rfl
@[simp] theorem State.setStore_geom (d : Drive) (st : Store) : (s.setStore d st).geom = s.geom := by cases d <;> rfl
@[simp] theorem State.setStore_mem (d : Drive) (st : Store) : (s.setStore d st).mem = s.mem := by cases d <;> rfl
@[simp] theorem State.setStore_console (d : Drive) (st : Store) : (s.setStore d st).console = s.console := by cases d <;> rfl
@[simp] theorem State.setStore_shutdownRequested (d : Drive) (st : Store) : (s.setStore d st).shutdownRequested = s.shutdownRequested := by cases d <;> rfl
@[simp] theorem State.setStore_pending (d : Drive) (st : Store) : (s.setStore d st).pending = s.pending := by cases d <;> rfl
@[simp] theorem State.setStore_result (d : Drive) (st : Store) : (s.setStore d st).result = s.result := by cases d <;> rfl
@[simp] theorem State.setStore_events (d : Drive) (st : Store) : (s.setStore d st).events = s.events := by cases d <;> rfl
@[simp] theorem State.setStore_now (d : Drive) (st : Store) : (s.setStore d st).now = s.now := by cases d <;> rfl
@[simp] theorem State.setStore_later (d : Drive) (st : Store) : (s.setStore d st).later = s.later := by cases d <;> rfl
@[simp] theorem State.setStore_draws (d : Drive) (st : Store) : (s.setStore d st).draws = s.draws := by cases d <;> rfl
@[simp] theorem State.setStore_stopped (d : Drive) (st : Store) : (s.setStore d st).stopped = s.stopped := by cases d <;> rfl
@[simp] theorem State.saveStore_regs (d : Drive) : (s.saveStore d).regs = s.regs := by cases d <;> rfl
@[simp] theorem State.saveStore_geom (d : Drive) : (s.saveStore d).geom = s.geom := by cases d <;> rfl
@[simp] theorem State.saveStore_mem (d : Drive) : (s.saveStore d).mem = s.mem := by cases d <;> rfl
@[simp] theorem State.saveStore_console (d : Drive) : (s.saveStore d).console = s.console := by cases d <;> rfl
@[simp] theorem State.saveStore_shutdownRequested (d : Drive) : (s.saveStore d).shutdownRequested = s.shutdownRequested := by cases d <;> rfl
@[simp] theorem State.saveStore_pending (d : Drive) : (s.saveStore d).pending = s.pending := by cases d <;> rfl
@[simp] theorem State.saveStore_result (d : Drive) : (s.saveStore d).result = s.result := by cases d <;> rfl
@[simp] theorem State.saveStore_events (d : Drive) : (s.saveStore d).events = s.events ++ [.stoSave d] := by cases d <;> rfl
@[simp] theorem State.saveStore_now (d : Drive) : (s.saveStore d).now = s.now := by cases d <;> rfl
@[simp] theorem State.saveStore_later (d : Drive) : (s.saveStore d).later = s.later := by cases d <;> rfl
@[simp] theorem State.saveStore_draws (d : Drive) : (s.saveStore d).draws = s.draws := by cases d <;> rfl
@[simp] theorem State.saveStore_stopped (d : Drive) : (s.saveStore d).stopped = s.stopped := by cases d <;> rfl

/-- The store written is the store read back; the other store is as it was. -/
@[simp] theorem State.setStore_store (d e : Drive) (st : Store) :
    (s.setStore d st).store e = if e = d then st else s.store e := by
  cases d <;> cases e <;> rfl

@[simp] theorem State.saveStore_store (d e : Drive) :
    (s.saveStore d).store e = if e = d then (s.store d).save else s.store e := by
  cases d <;> cases e <;> rfl

@[simp] theorem State.store_primary : s.store .primary = s.primary := rfl
@[simp] theorem State.store_secondary : s.store .secondary = s.secondary := rfl

@[simp] theorem State.hold_eq : s.hold = s := rfl

@[simp] theorem Store.save_rejects (st : Store) : st.save.rejects = st.rejects := rfl
@[simp] theorem Store.save_sectors (st : Store) : st.save.sectors = st.sectors := rfl
@[simp] theorem Store.save_unsaved (st : Store) : st.save.unsaved = false := rfl

end Sys2Proof.Machine
end

