-- ==== Sys2Proof/Laws/Operations.lean ====
section
/-! SUPPORT. What each shared operation can do, said once. -/

namespace Sys2Proof.Machine

variable (s : State) (v : Byte) (d : Drive)

/-! ## Operands -/

theorem DriveCount.value_eq (c : DriveCount) : c.value = 1 ∨ c.value = 2 := by cases c <;> simp [DriveCount.value]

/-- The drive check and the choice of the store depend on two registers only (R141). -/
@[simp] theorem Regs.selectedDrive_lastok (r : Regs) (ok : Bool) : ({ r with lastok := ok } : Regs).selectedDrive = r.selectedDrive :=
  rfl

theorem Regs.selectedDrive_eq_none (r : Regs) : r.selectedDrive = none ↔ r.drvcnt.value ≤ r.drvsel.toNat := by
  unfold Regs.selectedDrive; split <;> grind

/-- A valid drive select is the number of the store it selects (R36, R141). -/
theorem Regs.selectedDrive_eq_some (r : Regs) (d : Drive) :
    r.selectedDrive = some d ↔ r.drvsel.toNat < r.drvcnt.value ∧ r.drvsel.toNat = d.number := by
  unfold Regs.selectedDrive
  have hc := r.drvcnt.value_eq
  by_cases h0 : r.drvsel = 0#8
  · have : r.drvsel.toNat = 0 := by simp [h0]
    split
    · omega
    · cases d <;> simp [h0, Drive.number]; omega
  · have : r.drvsel.toNat ≠ 0 := fun h => h0 (BitVec.eq_of_toNat_eq (by simpa using h))
    split
    · simp; omega
    · cases d <;> simp [Drive.number] <;> omega

theorem Regs.dma_toNat (r : Regs) : r.dma.toNat = 256 * r.dmahi.toNat + r.dmalo.toNat := by
  have h1 := r.dmahi.isLt
  have h2 := r.dmalo.isLt
  simp only [Regs.dma, BitVec.toNat_append, Nat.shiftLeft_eq]
  rw [show r.dmahi.toNat * 2 ^ 8 = 2 ^ 8 * r.dmahi.toNat from Nat.mul_comm _ _,
    ← Nat.two_pow_add_eq_or_of_lt h2]

@[simp] theorem State.sectorIndex_latchFailure : s.latchFailure.sectorIndex = s.sectorIndex := rfl
@[simp] theorem State.sectorIndex_emit (e : Event) : (s.emit e).sectorIndex = s.sectorIndex := rfl

theorem State.sectorIndex_le : s.sectorIndex ≤ 255 * s.geom.sectorsPerTrack + 255 := by
  have h1 := s.regs.track.isLt
  have h2 := s.regs.sector.isLt
  have : s.geom.sectorsPerTrack * s.regs.track.toNat ≤ s.geom.sectorsPerTrack * 255 :=
    Nat.mul_le_mul_left _ (by omega)
  unfold State.sectorIndex
  omega

theorem State.granted_le {a : Addr} {n : Nat} (h : s.granted a n = true) : a.toNat + n ≤ 65536 := by
  simp [State.granted] at h; exact h.2

/-! ## The stores -/

theorem Store.accepts_iff (st : Store) (idx : Nat) : st.accepts idx = true ↔ idx ∉ st.rejects := by
  simp [Store.accepts]

theorem Store.read_held {st : Store} {idx : Nat} {sec : List Byte} (ha : st.accepts idx = true)
    (h : tableGet st.sectors idx = some sec) (ans : Answers) (old : List Byte) :
    st.read ans idx old = (true, overWindow old sec) := by
  simp [Store.read, ha, h]

theorem Store.read_open {st : Store} {idx : Nat} (ha : st.accepts idx = true) (h : tableGet st.sectors idx = none)
    (ans : Answers) (old : List Byte) : st.read ans idx old = (ans.readOk, overWindow old ans.readData) := by
  simp [Store.read, ha, h]

/-- Reads and writes at an index the store rejects both fail (R61). -/
theorem Store.read_rejected {st : Store} {idx : Nat} (ha : st.accepts idx = false) (ans : Answers) (old : List Byte) :
    st.read ans idx old = (false, overWindow old ans.readData) := by
  simp [Store.read, ha]

theorem Store.writeFlag_rejected {st : Store} {idx : Nat} (ha : st.accepts idx = false) (ans : Answers) :
    st.writeFlag ans idx = false := by
  simp [Store.writeFlag, ha]

theorem Store.writeFlag_accepted {st : Store} {idx : Nat} (ha : st.accepts idx = true) (ans : Answers) :
    st.writeFlag ans idx = ans.writeOk := by
  simp [Store.writeFlag, ha]

@[simp] theorem Store.read_length (st : Store) (ans : Answers) (idx : Nat) (old : List Byte) :
    (st.read ans idx old).2.length = old.length := by
  unfold Store.read; split <;> [split; skip] <;> simp

/-- No call changes which indices a store rejects. -/
@[simp] theorem Store.write_rejects (st : Store) (ans : Answers) (idx : Nat) (data : List Byte) :
    (st.write ans idx data).2.rejects = st.rejects := rfl

/-- After a `Write`, the sector written is held if the store took it and open if not; every other sector is as before. -/
theorem Store.write_sector (st : Store) (ans : Answers) (idx j : Nat) (data : List Byte) :
    tableGet (st.write ans idx data).2.sectors j =
      if j = idx then (if st.writeFlag ans idx then some data else none) else tableGet st.sectors j := by
  unfold Store.write
  cases st.writeFlag ans idx <;> simp [tableGet_put, tableGet_erase]

/-! ## The operation write -/

theorem State.diskOperation_invalid (h : s.regs.selectedDrive = none) : s.diskOperation v = s.latchFailure := by
  simp [State.diskOperation, h]

theorem State.diskOperation_refused {d : Drive} (h : s.regs.selectedDrive = some d)
    (hg : s.granted s.regs.dma s.geom.sectorSize = false) :
    s.diskOperation v = s.latchFailure.emit (.dmaReq s.regs.dma s.geom.sectorSize false) := by
  have hg' : s.latchFailure.granted s.regs.dma s.geom.sectorSize = false := hg
  simp [State.diskOperation, h, State.resolveWindow, Regs.dma] at *
  simp [hg']

theorem State.diskOperation_granted {d : Drive} (h : s.regs.selectedDrive = some d)
    (hg : s.granted s.regs.dma s.geom.sectorSize = true) :
    s.diskOperation v = (s.latchFailure.emit (.dmaReq s.regs.dma s.geom.sectorSize true)).dispatchOpcode v d s.regs.dma
      s.sectorIndex := by
  have hg' : s.latchFailure.granted s.regs.dma s.geom.sectorSize = true := hg
  simp [State.diskOperation, h, State.resolveWindow, Regs.dma] at *
  simp [hg']

/-- Everything an operation write can do (R148): the two early stops, or step 5. -/
theorem State.diskOperation_cases :
    (s.regs.selectedDrive = none ∧ s.diskOperation v = s.latchFailure) ∨
    (∃ d, s.regs.selectedDrive = some d ∧ s.granted s.regs.dma s.geom.sectorSize = false ∧
      s.diskOperation v = s.latchFailure.emit (.dmaReq s.regs.dma s.geom.sectorSize false)) ∨
    (∃ d, s.regs.selectedDrive = some d ∧ s.granted s.regs.dma s.geom.sectorSize = true ∧
      s.diskOperation v = (s.latchFailure.emit (.dmaReq s.regs.dma s.geom.sectorSize true)).dispatchOpcode v d s.regs.dma
        s.sectorIndex) := by
  cases h : s.regs.selectedDrive with
  | none => exact .inl ⟨rfl, s.diskOperation_invalid v h⟩
  | some d =>
    cases hg : s.granted s.regs.dma s.geom.sectorSize with
    | false => exact .inr (.inl ⟨d, rfl, rfl, s.diskOperation_refused v h hg⟩)
    | true => exact .inr (.inr ⟨d, rfl, rfl, s.diskOperation_granted v h hg⟩)

theorem State.dispatchOpcode_read (a : Addr) (idx : Nat) : s.dispatchOpcode opRead d a idx = s.readSector d a idx := by
  simp [State.dispatchOpcode]

theorem State.dispatchOpcode_write (a : Addr) (idx : Nat) : s.dispatchOpcode opWrite d a idx = s.writeSector d a idx := by
  simp [State.dispatchOpcode, opRead, opWrite]

theorem State.dispatchOpcode_other {v : Byte} (h1 : v ≠ opRead) (h2 : v ≠ opWrite) (a : Addr) (idx : Nat) :
    s.dispatchOpcode v d a idx = s := by
  simp [State.dispatchOpcode, h1, h2]

/-- What a READ at step 5 does: the store's answer is latched, and memory changes inside the window only. -/
theorem State.readSector_spec (a : Addr) (idx : Nat) :
    ∃ ok m, s.readSector d a idx = ((s.emit (.stoRead d idx ok)).setMem m).setLastok ok ∧
      (∀ x, (x < a.toNat ∨ a.toNat + s.geom.sectorSize ≤ x) → Memory.read m x = Memory.read s.mem x) ∧
      (Memory.wf s.mem → a.toNat + s.geom.sectorSize ≤ 65536 → Memory.wf m) := by
  refine ⟨_, _, rfl, fun x hx => ?_, fun h h' => ?_⟩
  · rw [memRead_byte_memWrite, if_neg (by simp; omega)]
  · exact memWrite_wf _ _ _ h (by simpa using h')

/-- What a WRITE at step 5 does to the stores: the selected one has taken the window, the other is as it was. -/
theorem State.writeSector_store (a : Addr) (idx : Nat) (e : Drive) :
    (s.writeSector d a idx).store e =
      if e = d then ((s.store d).write s.now idx (memRead s.mem a.toNat s.geom.sectorSize)).2 else s.store e := by
  cases d <;> cases e <;> rfl

/-! ## Console and control -/

/-- Everything `Con.Get()` can do (R121). -/
theorem State.getChar_cases :
    (∃ b rest, s.console = b :: rest ∧ s.getChar = { s with console := rest }.giveChar b) ∨
    (∃ b, s.console = [] ∧ s.now.emptyGet = some b ∧ s.getChar = s.giveChar b) ∨
    (s.console = [] ∧ s.now.emptyGet = none ∧ s.getChar = s) := by
  unfold State.getChar
  cases hc : s.console with
  | cons b rest => exact .inl ⟨b, rest, rfl, rfl⟩
  | nil =>
    cases he : s.now.emptyGet with
    | some b => exact .inr (.inl ⟨b, rfl, rfl, rfl⟩)
    | none => exact .inr (.inr ⟨rfl, rfl, rfl⟩)

/-- Everything a save of both stores can do (R171): it completes, having saved the secondary exactly if that is available, or the
machine stops with the primary saved and the secondary not. -/
theorem State.saveAll_cases :
    (s.now.saveStop = .beforeQuery ∧ s.saveAll = (s.saveStore .primary).stop) ∨
    (s.now.saveStop = .beforeSecondSave ∧ s.now.available = true ∧
      s.saveAll = ((s.saveStore .primary).emit (.stoAvail .secondary true)).stop) ∨
    (s.now.saveStop = .goesOn ∧ s.now.available = true ∧
      s.saveAll = (((s.saveStore .primary).emit (.stoAvail .secondary true)).saveStore .secondary).completeWrite) ∨
    (s.now.saveStop ≠ .beforeQuery ∧ s.now.available = false ∧
      s.saveAll = ((s.saveStore .primary).emit (.stoAvail .secondary false)).completeWrite) := by
  unfold State.saveAll State.saveSecondary
  cases h : s.now.saveStop <;> cases ha : s.now.available <;> simp [ha, h]

end Sys2Proof.Machine
end

