-- ==== Sys2Proof/Laws/PerInstr.lean ====
section
/-! SUPPORT. Statements about every instruction as syntax, one lemma per constructor. -/

namespace Sys2Proof.Laws

/-- The word of an instruction has the direction of its format, and a read's word is canonical: its data bits are 0
(spec/30_encoding.md R80, R81). -/
def EncodeShape.Statement (i : Instr) : Prop :=
  (encode i).isWrite = !i.isRead ∧ (i.isRead = true → (encode i).data = 0#8)

theorem EncodeShape.of_inWord {i : Instr} {p : Port} (h : encode i = inWord p) (hr : i.isRead = true) :
    EncodeShape.Statement i := by
  rw [EncodeShape.Statement, h]; simp [hr]

theorem EncodeShape.of_outWord {i : Instr} {p : Port} {v : Byte} (h : encode i = outWord p v) (hr : i.isRead = false) :
    EncodeShape.Statement i := by
  rw [EncodeShape.Statement, h]; simp [hr]

theorem EncodeShape.const : EncodeShape.Statement .const := EncodeShape.of_inWord rfl rfl
theorem EncodeShape.conin : EncodeShape.Statement .conin := EncodeShape.of_inWord rfl rfl
theorem EncodeShape.conout (v : Byte) : EncodeShape.Statement (.conout v) := EncodeShape.of_outWord rfl rfl
theorem EncodeShape.settrk (v : Byte) : EncodeShape.Statement (.settrk v) := EncodeShape.of_outWord rfl rfl
theorem EncodeShape.setsec (v : Byte) : EncodeShape.Statement (.setsec v) := EncodeShape.of_outWord rfl rfl
theorem EncodeShape.setdmal (v : Byte) : EncodeShape.Statement (.setdmal v) := EncodeShape.of_outWord rfl rfl
theorem EncodeShape.setdmah (v : Byte) : EncodeShape.Statement (.setdmah v) := EncodeShape.of_outWord rfl rfl
theorem EncodeShape.dskrd : EncodeShape.Statement .dskrd := EncodeShape.of_outWord rfl rfl
theorem EncodeShape.dskwr : EncodeShape.Statement .dskwr := EncodeShape.of_outWord rfl rfl
theorem EncodeShape.dskinv (v : Byte) : EncodeShape.Statement (.dskinv v) := EncodeShape.of_outWord rfl rfl
theorem EncodeShape.dskstat : EncodeShape.Statement .dskstat := EncodeShape.of_inWord rfl rfl
theorem EncodeShape.dskcnt : EncodeShape.Statement .dskcnt := EncodeShape.of_inWord rfl rfl
theorem EncodeShape.setdrv (v : Byte) : EncodeShape.Statement (.setdrv v) := EncodeShape.of_outWord rfl rfl
theorem EncodeShape.ctlsave : EncodeShape.Statement .ctlsave := EncodeShape.of_outWord rfl rfl
theorem EncodeShape.ctlquit : EncodeShape.Statement .ctlquit := EncodeShape.of_outWord rfl rfl
theorem EncodeShape.ctlnop (v : Byte) : EncodeShape.Statement (.ctlnop v) := EncodeShape.of_outWord rfl rfl
theorem EncodeShape.inunmap (p : Port) : EncodeShape.Statement (.inunmap p) := EncodeShape.of_inWord rfl rfl
theorem EncodeShape.outunmap (p : Port) (v : Byte) : EncodeShape.Statement (.outunmap p v) := EncodeShape.of_outWord rfl rfl

end Sys2Proof.Laws
end

