-- ==== Sys2Proof/Laws/Sound.lean ====
section
/-! SUPPORT. The parts of the invariant that single operations keep. -/

namespace Sys2Proof.Machine

/-- A store's `Write` of a whole sector at an index the block can form keeps the store's canonical form. -/
theorem Store.write_wf {g : Geometry} {st : Store} (h : st.wf g) (ans : Answers) {idx : Nat} {data : List Byte}
    (hi : idx ≤ 255 * g.sectorsPerTrack + 255) (hd : data.length = g.sectorSize) : (st.write ans idx data).2.wf g := by
  unfold Store.write
  cases hf : st.writeFlag ans idx
  · exact ⟨tableErase_sorted _ _ h.1, fun c hc => h.2 c (mem_tableErase _ _ hc)⟩
  · refine ⟨tablePut_sorted _ _ _ h.1, fun c hc => ?_⟩
    rcases mem_tablePut _ _ _ hc with rfl | hc
    · exact ⟨hi, hd, (Bool.and_eq_true _ _ ▸ hf : _ ∧ _).1⟩
    · exact h.2 c hc

/-- A store's `Save` keeps its canonical form. -/
theorem Store.save_wf {g : Geometry} {st : Store} (h : st.wf g) : st.save.wf g := h

/-- The invariant, with the two stores as one clause. -/
theorem State.inv_iff (s : State) : s.Inv ↔ s.geom.wf ∧ Memory.wf s.mem ∧ ∀ d, (s.store d).wf s.geom :=
  ⟨fun ⟨a, b, c, d⟩ => ⟨a, b, fun e => by cases e; exacts [c, d]⟩, fun ⟨a, b, c⟩ => ⟨a, b, c .primary, c .secondary⟩⟩

/-- What lands before a step, and a CPU store, keep the invariant. -/
theorem State.land_inv {s : State} (h : s.Inv) : s.land.Inv := h

theorem State.cpuStore_inv {s : State} (h : s.Inv) (a : Addr) (b : Byte) : (s.cpuStore a b).Inv :=
  ⟨h.1, Memory.write_wf _ _ _ h.2.1 a.isLt, h.2.2⟩

end Sys2Proof.Machine
end

