-- ==== Sys2Proof/Tests/Slice0.lean ====
section
/-! SUPPORT. Our own tests: ill-formed instructions, one decoded word for each constructor, vectors of spec/95_test_vectors.md, and
for every statement with hypotheses a state and operands that meet them. -/

namespace Sys2Proof.Tests

open Sys2Proof.Machine

/-! ## Ill-formed instructions, one for each check of `Instr.wellFormed` -/

theorem test_dskinv_read_ill_formed : (Instr.dskinv 0x01#8).wellFormed = false := by decide
theorem test_dskinv_write_ill_formed : (Instr.dskinv 0x02#8).wellFormed = false := by decide
theorem test_ctlnop_save_ill_formed : (Instr.ctlnop 0x53#8).wellFormed = false := by decide
theorem test_ctlnop_quit_ill_formed : (Instr.ctlnop 0x51#8).wellFormed = false := by decide
theorem test_inunmap_mapped_ill_formed : (Instr.inunmap 0xAB15#16).wellFormed = false := by decide
theorem test_outunmap_mapped_ill_formed : (Instr.outunmap 0x5510#16 0x7F#8).wellFormed = false := by decide

/-! ## Decoding: words written out from the encodings of spec/opcode_table.json (direction, high port byte, low port byte, data) -/

theorem test_decode_const    : decode 0b0_00000000_00000000_00000000#25 = .const := by decide
theorem test_decode_conin    : decode 0b0_00000000_00000001_00000000#25 = .conin := by decide
theorem test_decode_conout   : decode 0b1_00000000_00000010_01000001#25 = .conout 0x41#8 := by decide
theorem test_decode_settrk   : decode 0b1_01010101_00010000_01111111#25 = .settrk 0x7F#8 := by decide
theorem test_decode_setsec   : decode 0b1_00000000_00010001_00000101#25 = .setsec 0x05#8 := by decide
theorem test_decode_setdmal  : decode 0b1_00000000_00010010_10000000#25 = .setdmal 0x80#8 := by decide
theorem test_decode_setdmah  : decode 0b1_00000000_00010011_00010010#25 = .setdmah 0x12#8 := by decide
theorem test_decode_dskrd    : decode 0b1_11111111_00010100_00000001#25 = .dskrd := by decide
theorem test_decode_dskwr    : decode 0b1_00000000_00010100_00000010#25 = .dskwr := by decide
theorem test_decode_dskinv   : decode 0b1_00000000_00010100_10000001#25 = .dskinv 0x81#8 := by decide
theorem test_decode_dskstat  : decode 0b0_10101011_00010101_10101011#25 = .dskstat := by decide
theorem test_decode_dskcnt   : decode 0b0_11111111_00010110_00000000#25 = .dskcnt := by decide
theorem test_decode_setdrv   : decode 0b1_00000000_00010111_00000001#25 = .setdrv 0x01#8 := by decide
theorem test_decode_ctlsave  : decode 0b1_00010010_11100000_01010011#25 = .ctlsave := by decide
theorem test_decode_ctlquit  : decode 0b1_00000000_11100000_01010001#25 = .ctlquit := by decide
theorem test_decode_ctlnop   : decode 0b1_00000000_11100000_01110011#25 = .ctlnop 0x73#8 := by decide
theorem test_decode_inunmap  : decode 0b0_00000000_00010000_00000000#25 = .inunmap 0x0010#16 := by decide
theorem test_decode_outunmap : decode 0b1_00000000_10010000_00000001#25 = .outunmap 0x0090#16 0x01#8 := by decide

theorem test_decodeTableWord_dskrd : decodeTableWord 25 0x1001401 = some .dskrd := by decide
theorem test_decodeTableWord_whole_bytes : decodeTableWord 32 0x100E000 = some (.ctlnop 0x00#8) := by decide
theorem test_decode_too_wide : decodeBits 0x2000000 = .error (.notATransactionWord 0x2000000) := by rfl
theorem test_row_priorities :
    opcodeTable.map TableRow.priority = [9, 9, 9, 9, 9, 9, 9, 17, 17, 9, 9, 9, 9, 17, 17, 9, 1, 1] := by decide

/-! ## Small states: instantiation T of spec/95_test_vectors.md (4-byte sectors, 2 in a track) -/

/-- Answers with a granted window, a store that takes writes and rejects reads of open sectors, and an empty console that holds. -/
def answers : Answers :=
  { chars := [], emptyGet := none, grant := true, readOk := false, readData := [], writeOk := true, available := true,
    saveStop := .goesOn }

/-- The register values of the vectors of 2.3, `11 22 33 44 00 true 1`. -/
def start : State :=
  { regs := ⟨0x11#8, 0x22#8, 0x33#8, 0x44#8, 0x00#8, true, .one⟩, geom := ⟨4, 2⟩, mem := [], primary := ⟨[], [], false⟩,
    secondary := ⟨[], [], false⟩, console := [], shutdownRequested := false, pending := [], result := none, events := [],
    now := answers, later := [], draws := 0, stopped := false }

/-- The start state with other registers. -/
def withRegs (track sector dmalo dmahi drvsel : Byte) (lastok : Bool) (drvcnt : DriveCount) : State :=
  { start with regs := ⟨track, sector, dmalo, dmahi, drvsel, lastok, drvcnt⟩ }

/-- The state after an instruction that goes on. -/
def after (i : Instr) (s : State) : State :=
  match exec i s with
  | .next t => t
  | .fault _ => s
  | .refused _ => s

/-- The sector `DE AD BE EF` of the vectors of 2.4. -/
def beef : List Byte := [0xDE#8, 0xAD#8, 0xBE#8, 0xEF#8]

/-- The start of O1: sector 3 of the primary store holds `DE AD BE EF`. -/
def o1 : State := { withRegs 0x01#8 0x01#8 0x00#8 0x20#8 0x00#8 false .one with primary := ⟨[], [(3, beef)], false⟩ }

/-- The start of O3: memory 0x2000-0x2003 is `11 22 33 44`. -/
def o3 : State :=
  { withRegs 0x00#8 0x00#8 0x00#8 0x20#8 0x00#8 true .one with
    mem := [(0x2000, 0x11#8), (0x2001, 0x22#8), (0x2002, 0x33#8), (0x2003, 0x44#8)] }

/-! ## Vectors: 2.2 console -/

theorem test_const_full : (after .const { start with console := [0x41#8] }).result = some 0x01#8 := by decide
theorem test_const_empty : (after .const start).result = some 0x00#8 := by decide
theorem test_conin_consumes :
    (fun t => (t.result, t.console, t.events)) (after .conin { start with console := [0x41#8] }) =
      (some 0x41#8, [], [.conGet 0x41#8]) := by decide
theorem test_conin_empty_holds :
    (after .conin { start with pending := [.bus 0x0000100#25] }).pending = [.bus 0x0000100#25] := by decide
theorem test_conout_bit7 : (after (.conout 0xFF#8) start).events = [.conPut 0xFF#8] := by decide

/-! ## Vectors: 2.3 register writes -/

theorem test_settrk : (after (.settrk 0xFF#8) start).regs = ⟨0xFF#8, 0x22#8, 0x33#8, 0x44#8, 0x00#8, true, .one⟩ := by decide
theorem test_setsec : (after (.setsec 0xFF#8) start).regs = ⟨0x11#8, 0xFF#8, 0x33#8, 0x44#8, 0x00#8, true, .one⟩ := by decide
theorem test_setdmal : (after (.setdmal 0x00#8) start).regs.dma = 0x4400#16 := by decide
theorem test_setdmah : (after (.setdmah 0xFF#8) start).regs.dma = 0xFF33#16 := by decide
theorem test_setdrv_not_clamped :
    (after (.setdrv 0xFF#8) start).regs = ⟨0x11#8, 0x22#8, 0x33#8, 0x44#8, 0xFF#8, true, .one⟩ := by decide

/-! ## Vectors: 2.4 operations -/

/-- O9: the last grantable window. -/
theorem test_o9_last_window :
    (fun t => (t.regs.lastok, t.mem)) (after .dskrd { o1 with regs := { o1.regs with dmalo := 0xFC#8, dmahi := 0xFF#8 } }) =
      (true, [(0xFFFC, 0xDE#8), (0xFFFD, 0xAD#8), (0xFFFE, 0xBE#8), (0xFFFF, 0xEF#8)]) := by decide
/-- O2: a sector number above the track's reaches into the next track. -/
theorem test_o2_index :
    (after .dskrd { o1 with regs := { o1.regs with track := 0x00#8, sector := 0x03#8 } }).events =
      [.dmaReq 0x2000#16 4 true, .stoRead .primary 3 true] := by decide
theorem test_o3_write :
    (fun t => (t.primary.sectors, t.events, t.mem = o3.mem)) (after .dskwr o3) =
      ([(0, [0x11#8, 0x22#8, 0x33#8, 0x44#8])],
       [.dmaReq 0x2000#16 4 true, .stoWrite .primary 0 [0x11#8, 0x22#8, 0x33#8, 0x44#8] true], True) := by
  refine Prod.ext (by decide) (Prod.ext (by decide) (eq_true (by decide)))
/-- O6: 255 is not below 2, unsigned. -/
theorem test_o6_invalid_drive :
    (fun t => (t.events, t.regs.lastok)) (after .dskwr (withRegs 0x01#8 0x01#8 0x00#8 0x20#8 0xFF#8 true .two)) =
      ([], false) := by decide
/-- O13: opcode 0 is not idle. -/
theorem test_o13_unknown_opcode :
    (fun t => (t.events, t.regs.lastok)) (after (.dskinv 0x00#8) (withRegs 0x00#8 0x00#8 0x00#8 0x20#8 0x00#8 true .one)) =
      ([.dmaReq 0x2000#16 4 true], false) := by decide
/-- O16: the refusal decides before the opcode. -/
theorem test_o16_refused :
    (after (.dskinv 0x03#8) (withRegs 0x00#8 0x00#8 0xFD#8 0xFF#8 0x00#8 true .one)).events =
      [.dmaReq 0xFFFD#16 4 false] := by decide

/-- R61: at an index the store rejects both calls fail, whatever its other answers would be. -/
theorem test_rejected_index :
    let s : State := { o1 with primary := ⟨[3], [], false⟩, now := { answers with readOk := true, writeOk := true } }
    (after .dskrd s).events = [.dmaReq 0x2000#16 4 true, .stoRead .primary 3 false] ∧ (after .dskrd s).regs.lastok = false ∧
    (after .dskwr s).events = [.dmaReq 0x2000#16 4 true, .stoWrite .primary 3 [0#8, 0#8, 0#8, 0#8] false] ∧
    (after .dskwr s).regs.lastok = false := by decide

/-! ## Vectors: 2.5 status and count, 2.6 control, P5 decoder -/

theorem test_dskstat_ok : (after .dskstat start).result = some 0x00#8 := by decide
theorem test_dskstat_error : (after .dskstat (withRegs 0#8 0#8 0#8 0#8 0#8 false .one)).result = some 0x01#8 := by decide
theorem test_dskcnt_one : (after .dskcnt start).result = some 0x01#8 := by decide
theorem test_dskcnt_two : (after .dskcnt (withRegs 0#8 0#8 0#8 0#8 0#8 true .two)).result = some 0x02#8 := by decide
theorem test_ctlsave_both :
    (after .ctlsave start).events = [.stoSave .primary, .stoAvail .secondary true, .stoSave .secondary] := by decide
theorem test_ctlsave_primary_only :
    (after .ctlsave { start with now := { answers with available := false } }).events =
      [.stoSave .primary, .stoAvail .secondary false] := by decide
/-- R171: a stop between the saves leaves the primary saved and the secondary not. -/
theorem test_ctlsave_stops_between :
    let s : State := { start with primary := ⟨[], [], true⟩, secondary := ⟨[], [], true⟩,
                                  now := { answers with saveStop := .beforeSecondSave } }
    (fun t => (t.primary.unsaved, t.secondary.unsaved, t.stopped, t.events)) (after .ctlsave s) =
      (false, true, true, [.stoSave .primary, .stoAvail .secondary true]) := by decide
theorem test_ctlquit_twice : (after .ctlquit (after .ctlquit start)).events = [.shutdown, .shutdown] := by decide
theorem test_ctlnop : after (.ctlnop 0x73#8) start = start := by decide
theorem test_inunmap : (after (.inunmap 0x0010#16) start).result = some 0xFF#8 := by decide
theorem test_outunmap : after (.outunmap 0x0018#16 0xAA#8) start = start := by decide

/-- The first transaction after reset (R200): `SETTRK 0x02` runs whatever the free values are. -/
theorem test_first_transaction_after_reset :
    ∃ t, step (State.reset.withFetchWord 32 0x1001002) = .next t ∧ t.regs.track = 0x02#8 := ⟨_, rfl, rfl⟩

/-! ## Witnesses: a state and operands that meet the hypotheses of each statement -/

theorem witness_DecodeOfEncodeIsIdentity :
    [Instr.const, .dskinv 0x03#8, .ctlnop 0x52#8, .inunmap 0x0018#16, .outunmap 0x0015#16 0x00#8].all Instr.wellFormed = true := by
  decide
theorem witness_EncodeOfDecodeIsCanonicalWord : TWord.isWrite 0x155107F#25 = true ∧ TWord.isWrite 0x0AB15FF#25 = false := by decide
theorem witness_IgnoredBitsChangeNothing :
    (TWord.isWrite 0x0AB1500#25 = TWord.isWrite 0x00015AB#25 ∧ lo8 (TWord.port 0x0AB1500#25) = lo8 (TWord.port 0x00015AB#25) ∧
      (TWord.isWrite 0x0AB1500#25 = true → TWord.data 0x0AB1500#25 = TWord.data 0x00015AB#25)) ∧
    (TWord.isWrite 0x155107F#25 = TWord.isWrite 0x100107F#25 ∧ lo8 (TWord.port 0x155107F#25) = lo8 (TWord.port 0x100107F#25) ∧
      (TWord.isWrite 0x155107F#25 = true → TWord.data 0x155107F#25 = TWord.data 0x100107F#25)) ∧
    (TWord.isWrite 0x0001800#25 = TWord.isWrite 0x0009000#25 ∧ lo8 (TWord.port 0x0001800#25) ≠ lo8 (TWord.port 0x0009000#25) ∧
      (decode 0x0001800#25).mnemonic = (decode 0x0009000#25).mnemonic) := by decide
theorem witness_StepRunsDecodedTransaction :
    start.stopped = false ∧
    ({ start with pending := [.bus 0x1001002#25], later := [answers] } : State).pending = .bus 0x1001002#25 :: [] ∧
    ({ start with pending := [.bus 0x1001002#25], later := [answers] } : State).later = answers :: [] := by decide
theorem witness_StepWithoutTransaction :
    start.stopped = false ∧ start.pending = [] ∧
    ({ start with pending := [.store 0xFFFF#16 0x00#8] } : State).pending = .store 0xFFFF#16 0x00#8 :: [] := by
  decide
theorem witness_EveryTransactionCompletes :
    (Instr.conin = .conin → ({ start with console := [0xFF#8] } : State).console ≠ [] ∨ start.now.emptyGet ≠ none) ∧
    (Instr.ctlsave = .ctlsave → start.now.saveStop = .goesOn ∨
      (start.now.saveStop = .beforeSecondSave ∧ start.now.available = false)) := by decide
theorem witness_port_rows :
    (0x0AB00CD#25 &&& 0x100FF00#25 : TWord) = 0x0000000#25 ∧ (0x0000100#25 &&& 0x100FF00#25 : TWord) = 0x0000100#25 ∧
    (0x1000241#25 &&& 0x100FF00#25 : TWord) = 0x1000200#25 ∧ (0x155107F#25 &&& 0x100FF00#25 : TWord) = 0x1001000#25 ∧
    (0x1001105#25 &&& 0x100FF00#25 : TWord) = 0x1001100#25 ∧ (0x1001280#25 &&& 0x100FF00#25 : TWord) = 0x1001200#25 ∧
    (0x1001312#25 &&& 0x100FF00#25 : TWord) = 0x1001300#25 ∧ (0x1001701#25 &&& 0x100FF00#25 : TWord) = 0x1001700#25 ∧
    (0x00015AB#25 &&& 0x100FF00#25 : TWord) = 0x0001500#25 ∧ (0x0FF1600#25 &&& 0x100FF00#25 : TWord) = 0x0001600#25 := by decide
theorem witness_command_rows :
    (0x1FF1401#25 &&& 0x100FFFF#25 : TWord) = 0x1001401#25 ∧ (0x1001402#25 &&& 0x100FFFF#25 : TWord) = 0x1001402#25 ∧
    (0x112E053#25 &&& 0x100FFFF#25 : TWord) = 0x100E053#25 ∧ (0x100E051#25 &&& 0x100FFFF#25 : TWord) = 0x100E051#25 := by decide
theorem witness_catch_all_rows :
    ((0x1001400#25 &&& 0x100FF00#25 : TWord) = 0x1001400#25 ∧ (0x1001400#25 &&& 0x100FFFF#25 : TWord) ≠ 0x1001401#25 ∧
      (0x1001400#25 &&& 0x100FFFF#25 : TWord) ≠ 0x1001402#25) ∧
    ((0x100E052#25 &&& 0x100FF00#25 : TWord) = 0x100E000#25 ∧ (0x100E052#25 &&& 0x100FFFF#25 : TWord) ≠ 0x100E053#25 ∧
      (0x100E052#25 &&& 0x100FFFF#25 : TWord) ≠ 0x100E051#25) := by decide
theorem witness_ConsoleCharacterIsConsumed : ({ start with console := [0x41#8] } : State).console = 0x41#8 :: [] := by decide
theorem witness_EmptyConsoleReturnsOrHolds :
    start.console = [] ∧ start.now.emptyGet = none ∧
    ({ start with now := { answers with emptyGet := some 0x1A#8 } } : State).now.emptyGet = some 0x1A#8 := by decide
theorem witness_HeldReadCompletesOnArrival :
    (let s : State := { start with pending := [.bus 0x0000100#25], later := [answers] }
     s.stopped = false ∧ s.pending = .bus 0x0000100#25 :: [] ∧ decode 0x0000100#25 = .conin ∧ s.console = [] ∧ s.later = answers :: [] ∧
     answers.chars = [] ∧ answers.emptyGet = none) ∧
    (let a : Answers := { answers with chars := [0x41#8, 0x42#8] }
     let s : State := { start with pending := [.bus 0x0000100#25], later := [a] }
     s.later = a :: [] ∧ a.chars = 0x41#8 :: [0x42#8]) := by decide
theorem witness_OperationOnInvalidDriveFails :
    Instr.dskrd.isOperation = true ∧
    (withRegs 0#8 0#8 0#8 0#8 0x01#8 true .one).regs.drvcnt.value ≤ (withRegs 0#8 0#8 0#8 0#8 0x01#8 true .one).regs.drvsel.toNat ∧
    (withRegs 0#8 0#8 0#8 0#8 0x02#8 true .two).regs.drvcnt.value ≤ (withRegs 0#8 0#8 0#8 0#8 0x02#8 true .two).regs.drvsel.toNat := by
  decide
theorem witness_OperationWithRefusedWindowFails :
    (let s := withRegs 0#8 0#8 0xFD#8 0xFF#8 0x00#8 true .one
     s.regs.drvsel.toNat < s.regs.drvcnt.value ∧ 65536 < s.regs.dma.toNat + s.geom.sectorSize) ∧
    (let s : State := { start with now := { answers with grant := false } }
     s.regs.drvsel.toNat < s.regs.drvcnt.value ∧ s.now.grant = false) := by decide
theorem witness_UnknownOpcodeLatchesFailure :
    ((0x00#8 : Byte) ≠ 0x01#8 ∧ (0x00#8 : Byte) ≠ 0x02#8 ∧ start.regs.drvsel.toNat < start.regs.drvcnt.value) ∧
    (withRegs 0#8 0#8 0#8 0#8 0x01#8 true .one).regs.drvcnt.value ≤ (withRegs 0#8 0#8 0#8 0#8 0x01#8 true .one).regs.drvsel.toNat := by
  decide
theorem witness_ReadOfHeldSectorFillsWindow :
    o1.regs.drvsel.toNat = Drive.primary.number ∧ Drive.primary.number < o1.regs.drvcnt.value ∧ o1.now.grant = true ∧
    o1.regs.dma.toNat + o1.geom.sectorSize ≤ 65536 ∧
    tableGet (o1.store .primary).sectors (o1.geom.sectorsPerTrack * o1.regs.track.toNat + o1.regs.sector.toNat) = some beef ∧
    o1.geom.sectorsPerTrack * o1.regs.track.toNat + o1.regs.sector.toNat ∉ (o1.store .primary).rejects ∧ beef.length = o1.geom.sectorSize := by decide
/-- Also the last window that fits: `DMA + SECTOR_SIZE = 65536`. -/
theorem witness_ReadOfOpenSectorFollowsStore :
    let s := withRegs 0x04#8 0x00#8 0xFC#8 0xFF#8 0x01#8 true .two
    s.regs.drvsel.toNat = Drive.secondary.number ∧ Drive.secondary.number < s.regs.drvcnt.value ∧ s.now.grant = true ∧
    s.regs.dma.toNat + s.geom.sectorSize ≤ 65536 ∧
    tableGet (s.store .secondary).sectors (s.geom.sectorsPerTrack * s.regs.track.toNat + s.regs.sector.toNat) = none ∧
    s.geom.sectorsPerTrack * s.regs.track.toNat + s.regs.sector.toNat ∉ (s.store .secondary).rejects := by decide
theorem witness_WriteSendsWindowToStore :
    o3.regs.drvsel.toNat = Drive.primary.number ∧ Drive.primary.number < o3.regs.drvcnt.value ∧ o3.now.grant = true ∧
    o3.regs.dma.toNat + o3.geom.sectorSize ≤ 65536 ∧
    0 = o3.geom.sectorsPerTrack * o3.regs.track.toNat + o3.regs.sector.toNat ∧ 0 ∉ (o3.store .primary).rejects ∧
    [0x11#8, 0x22#8, 0x33#8, 0x44#8] =
      (List.range o3.geom.sectorSize).map (fun k => Memory.read o3.mem (o3.regs.dma.toNat + k)) := by decide
/-- For the statements over all operation writes; a successful one reaches the clauses about a latched success. -/
theorem witness_operations :
    Instr.dskrd.isOperation = true ∧ Instr.dskrd.wellFormed = true ∧ (Instr.dskinv 0x03#8).isOperation = true ∧
    (Instr.dskinv 0x03#8).wellFormed = true ∧ (after .dskrd o1).regs.lastok = true ∧ (after .dskwr o3).regs.lastok = true ∧
    Drive.secondary.number ≠ o1.regs.drvsel.toNat := by decide
theorem witness_UnmappedReadReturnsSentinel :
    TWord.isWrite 0x000FF00#25 = false ∧ lo8 (TWord.port 0x000FF00#25) ≠ 0x00#8 ∧ lo8 (TWord.port 0x000FF00#25) ≠ 0x01#8 ∧
    lo8 (TWord.port 0x000FF00#25) ≠ 0x15#8 ∧ lo8 (TWord.port 0x000FF00#25) ≠ 0x16#8 := by decide
theorem witness_UnmappedWriteIsIgnored :
    TWord.isWrite 0x10018AA#25 = true ∧ lo8 (TWord.port 0x10018AA#25) ≠ 0x02#8 ∧ lo8 (TWord.port 0x10018AA#25) ≠ 0x10#8 ∧
    lo8 (TWord.port 0x10018AA#25) ≠ 0x11#8 ∧ lo8 (TWord.port 0x10018AA#25) ≠ 0x12#8 ∧ lo8 (TWord.port 0x10018AA#25) ≠ 0x13#8 ∧
    lo8 (TWord.port 0x10018AA#25) ≠ 0x14#8 ∧ lo8 (TWord.port 0x10018AA#25) ≠ 0x17#8 ∧ lo8 (TWord.port 0x10018AA#25) ≠ 0xE0#8 := by
  decide
theorem witness_WrongDirectionIsUnmapped :
    lo8 0x12E0#16 ∈ [0x02#8, 0x10#8, 0x11#8, 0x12#8, 0x13#8, 0x14#8, 0x17#8, 0xE0#8] ∧
    lo8 0x0100#16 ∈ [0x00#8, 0x01#8, 0x15#8, 0x16#8] := by decide
theorem witness_DriveCountNeverChanges : Reaches { start with pending := [] } start.land :=
  .step .start rfl
/-- A run after reset in which a transaction occurs. -/
theorem witness_DskcntReturnsDriveCount :
    ∃ t, Reaches { State.resetWith ResetInputs.chosen with pending := [.bus 0x1001002#25], later := [answers] } t ∧
      t.regs.track = 0x02#8 :=
  ⟨_, .step .start rfl, rfl⟩
/-- Each premise of the clause on a completed save, and of the two clauses on a stop. -/
theorem witness_CtlsaveSavesAvailableStores :
    start.now.saveStop = .goesOn ∧
    (let a : Answers := { answers with saveStop := .beforeSecondSave, available := false }
     a.saveStop = .beforeSecondSave ∧ a.available = false) := by decide
theorem witness_SaveCanStopBetweenTheStores :
    ({ start with now := { answers with saveStop := .beforeQuery } } : State).now.saveStop = .beforeQuery ∧
    (let s : State := { start with now := { answers with saveStop := .beforeSecondSave } }
     s.now.saveStop = .beforeSecondSave ∧ s.now.available = true ∧ (after .ctlsave s).stopped = true) := by decide
theorem witness_SaveCanStopBetweenTheStores_run :
    Reaches { start with stopped := true } { start with stopped := true } := .step .start rfl
/-- Sector 3, at O1's registers, is an index the store rejects. -/
theorem witness_RejectedIndexFailsBothCalls :
    let s : State := { o1 with primary := ⟨[3], [], false⟩ }
    s.regs.drvsel.toNat = Drive.primary.number ∧ Drive.primary.number < s.regs.drvcnt.value ∧ s.now.grant = true ∧
    s.regs.dma.toNat + s.geom.sectorSize ≤ 65536 ∧ 3 = s.geom.sectorsPerTrack * s.regs.track.toNat + s.regs.sector.toNat ∧
    3 ∈ (s.store .primary).rejects := by decide
theorem witness_EachRegisterHasOneWriter :
    Instr.setdrv 0x05#8 ∈ [.settrk 0x05#8, .setsec 0x05#8, .setdmal 0x05#8, .setdmah 0x05#8, .setdrv 0x05#8] ∧
    Instr.dskstat.isRead = true ∧ (withRegs 0#8 0#8 0#8 0#8 0#8 true .one).regs.lastok = start.regs.lastok ∧
    (withRegs 0#8 0#8 0#8 0#8 0#8 true .one).regs.drvcnt = start.regs.drvcnt := by decide
/-- A byte of the window changes, the read's own; and memory that differs outside the window only meets the second clause. -/
theorem witness_MemoryIsReachedThroughWindowOnly :
    Memory.read (after .dskrd o1).mem 0x2000 ≠ Memory.read o1.mem 0x2000 ∧
    (∀ k < o1.geom.sectorSize, Memory.read [(0x1FFF, 0x01#8), (0x2004, 0x02#8)] (o1.regs.dma.toNat + k) =
      Memory.read o1.mem (o1.regs.dma.toNat + k)) := by decide
theorem witness_StoresChangeBySelectedWriteOnly :
    tableGet ((after .dskwr o3).store .primary).sectors 0 ≠ tableGet (o3.store .primary).sectors 0 := by decide
theorem witness_ResetStateIsSound :
    let r : ResetInputs := { track := 0xFF#8, sector := 0#8, dmalo := 0#8, dmahi := 0#8, drvsel := 0x05#8, lastok := true,
                             available := true, geom := ⟨65536, 1⟩, mem := [(0xFFFF, 0x01#8)], primary := ⟨[256], [], true⟩,
                             secondary := ⟨[], [], false⟩, console := [0x41#8], shutdownRequested := false }
    r.geom.wf ∧ Memory.wf r.mem ∧ r.primary.wf r.geom ∧ r.secondary.wf r.geom := by
  refine ⟨by decide, by decide, ?_, ?_⟩ <;> exact ⟨List.Pairwise.nil, nofun⟩

/-- A write at O3's registers, then a read of the same sector, both granted. -/
def writeThenRead : State :=
  { o3 with pending := [.bus 0x1001402#25, .bus 0x1001401#25], later := [answers, answers] }

/-- The state after the write. -/
def written : State := after .dskwr writeThenRead.land

theorem witness_SoundStateStaysSound : writeThenRead.Inv ∧ step writeThenRead = .next written := ⟨by decide, rfl⟩
theorem witness_WriteThenReadRoundTrips :
    writeThenRead.stopped = false ∧ written.stopped = false ∧ writeThenRead.pending = .bus 0x1001402#25 :: [.bus 0x1001401#25] ∧ decode 0x1001402#25 = .dskwr ∧
    writeThenRead.regs.drvsel.toNat = Drive.primary.number ∧ step writeThenRead = .next written ∧ written.regs.lastok = true ∧
    Reaches written written ∧ written.events = written.events ++ [] ∧
    (∀ data ok, Event.stoWrite .primary writeThenRead.sectorIndex data ok ∉ ([] : List Event)) ∧
    written.pending = .bus 0x1001401#25 :: [] ∧ decode 0x1001401#25 = .dskrd ∧
    written.regs.drvsel.toNat = Drive.primary.number ∧ written.sectorIndex = writeThenRead.sectorIndex ∧
    written.land.now.grant = true ∧ written.regs.dma.toNat + written.geom.sectorSize ≤ 65536 :=
  ⟨by decide, by decide, by decide, by decide, by decide, rfl, by decide, .start, by decide, nofun, by decide, by decide, by decide, by decide, by decide,
    by decide⟩

end Sys2Proof.Tests
end

/-! # The step, completion and soundness (spec/00_scope.md R7, R8; spec/20_memory.md R64) -/

namespace Sys2Proof.Machine

/-! ## What a step does -/

/-- A machine that has stopped stays as it is. -/
theorem step_of_stopped {s : State} (h : s.stopped = true) : step s = .next s := by
  simp [step, h]

/-- With no action of the CPU core, only the outside's inputs land. -/
theorem step_of_idle {s : State} (hr : s.stopped = false) (hp : s.pending = []) : step s = .next s.land := by
  simp [step, hr, hp]

theorem step_of_store {s : State} {a : Addr} {b : Byte} {rest : List CpuAction} (hr : s.stopped = false)
    (hp : s.pending = .store a b :: rest) : step s = .next (s.land.cpuStore a b) := by
  simp [step, hr, hp]

theorem step_of_bus {s : State} {w : TWord} {rest : List CpuAction} (hr : s.stopped = false)
    (hp : s.pending = .bus w :: rest) : step s = exec (decode w) s.land := by
  simp [step, hr, hp]

/-- Everything a step can do: the machine has stopped, or inputs land and then the CPU core's next action, if any, takes effect. -/
theorem step_cases {s t : State} (h : step s = .next t) :
    (s.stopped = true ∧ t = s) ∨
    (s.stopped = false ∧ s.pending = [] ∧ t = s.land) ∨
    (∃ a b rest, s.stopped = false ∧ s.pending = .store a b :: rest ∧ t = s.land.cpuStore a b) ∨
    (∃ w rest, s.stopped = false ∧ s.pending = .bus w :: rest ∧ exec (decode w) s.land = .next t) := by
  cases hr : s.stopped with
  | true => exact .inl ⟨rfl, by simpa [step_of_stopped hr] using h.symm⟩
  | false =>
    match hp : s.pending with
    | [] => exact .inr (.inl ⟨rfl, rfl, by simpa [step_of_idle hr hp] using h.symm⟩)
    | .store a b :: rest =>
      exact .inr (.inr (.inl ⟨a, b, rest, rfl, rfl, by simpa [step_of_store hr hp] using h.symm⟩))
    | .bus w :: rest => exact .inr (.inr (.inr ⟨w, rest, rfl, rfl, step_of_bus hr hp ▸ h⟩))

/-! ## What an instruction does, by kind -/

/-- Every operation write is the one operation, at some opcode, and then completes (R140). -/
theorem exec_of_isOperation {i : Instr} (h : i.isOperation = true) :
    ∃ v, ∀ s, exec i s = .next (s.diskOperation v).completeWrite := by
  cases i with
  | dskrd => exact ⟨opRead, fun _ => rfl⟩
  | dskwr => exact ⟨opWrite, fun _ => rfl⟩
  | dskinv v => exact ⟨v, fun _ => rfl⟩
  | const | conin | conout | settrk | setsec | setdmal | setdmah | dskstat | dskcnt | setdrv | ctlsave | ctlquit
  | ctlnop | inunmap | outunmap => cases h

/-- `Con.Get()` touches neither the parameters nor the memory nor the stores. -/
theorem State.getChar_frame (s : State) : s.getChar.geom = s.geom ∧ s.getChar.mem = s.mem ∧
    s.getChar.primary = s.primary ∧ s.getChar.secondary = s.secondary := by
  obtain ⟨b, rest, -, h⟩ | ⟨b, -, -, h⟩ | ⟨-, -, h⟩ := s.getChar_cases <;> rw [h] <;> exact ⟨rfl, rfl, rfl, rfl⟩

/-- Only operation writes and `CTLSAVE` reach the memory and the stores, and nothing else changes a parameter. -/
theorem exec_frame {i : Instr} {s t : State} (ho : i.isOperation = false) (hc : i ≠ .ctlsave) (h : exec i s = .next t) :
    t.geom = s.geom ∧ t.mem = s.mem ∧ t.primary = s.primary ∧ t.secondary = s.secondary := by
  cases i with
  | conin => cases h; exact s.getChar_frame
  | dskrd | dskwr | dskinv => cases ho
  | ctlsave => exact absurd rfl hc
  | const | conout | settrk | setsec | setdmal | setdmah | dskstat | dskcnt | setdrv | ctlquit | ctlnop | inunmap
  | outunmap => cases h; exact ⟨rfl, rfl, rfl, rfl⟩

/-! ## The invariant -/

/-- The invariant speaks of the parameters, the memory and the stores only. -/
theorem State.Inv.of_frame {s t : State} (hs : s.Inv) (h : t.geom = s.geom ∧ t.mem = s.mem ∧ t.primary = s.primary ∧
    t.secondary = s.secondary) : t.Inv := by
  obtain ⟨hg, hm, hp, hq⟩ := h
  rwa [State.Inv, hg, hm, hp, hq]

/-- Replacing a store by one in canonical form keeps the invariant. -/
theorem State.setStore_inv {s : State} (hs : s.Inv) {d : Drive} {st : Store} (hst : st.wf s.geom) :
    (s.setStore d st).Inv := by
  obtain ⟨hg, hm, hp, hq⟩ := hs
  cases d with
  | primary => exact ⟨hg, hm, hst, hq⟩
  | secondary => exact ⟨hg, hm, hp, hst⟩

theorem State.saveStore_inv {s : State} (hs : s.Inv) (d : Drive) : (s.saveStore d).Inv :=
  State.setStore_inv hs (Store.save_wf (((State.inv_iff s).1 hs).2.2 d))

/-- A READ puts the store's bytes over a window inside the memory. -/
theorem State.readSector_inv {s : State} (hs : s.Inv) (d : Drive) {a : Addr} (ha : a.toNat + s.geom.sectorSize ≤ 65536)
    (idx : Nat) : (s.readSector d a idx).Inv := by
  obtain ⟨hg, hm, hp, hq⟩ := hs
  obtain ⟨ok, m, h, -, hwf⟩ := s.readSector_spec d a idx
  rw [h]
  exact ⟨hg, hwf hm ha, hp, hq⟩

/-- A WRITE gives the store one whole sector, at an index the block can form. -/
theorem State.writeSector_inv {s : State} (hs : s.Inv) (d : Drive) (a : Addr) {idx : Nat}
    (hi : idx ≤ 255 * s.geom.sectorsPerTrack + 255) : (s.writeSector d a idx).Inv :=
  State.setStore_inv hs (Store.write_wf (((State.inv_iff s).1 hs).2.2 d) s.now hi (memRead_length ..))

theorem State.dispatchOpcode_inv {s : State} (hs : s.Inv) (v : Byte) (d : Drive) {a : Addr} {idx : Nat}
    (ha : a.toNat + s.geom.sectorSize ≤ 65536) (hi : idx ≤ 255 * s.geom.sectorsPerTrack + 255) :
    (s.dispatchOpcode v d a idx).Inv := by
  by_cases hr : v = opRead
  · rw [hr, State.dispatchOpcode_read]; exact State.readSector_inv hs d ha idx
  · by_cases hw : v = opWrite
    · rw [hw, State.dispatchOpcode_write]; exact State.writeSector_inv hs d a hi
    · rwa [State.dispatchOpcode_other _ _ hr hw]

/-- An operation write keeps the invariant: it reaches step 5 only with a window inside the memory (R55), and then at an index the
block can form (R35). -/
theorem State.diskOperation_inv {s : State} (hs : s.Inv) (v : Byte) : (s.diskOperation v).Inv := by
  obtain ⟨-, h⟩ | ⟨d, -, -, h⟩ | ⟨d, -, hg, h⟩ := s.diskOperation_cases v <;> rw [h]
  · exact hs
  · exact hs
  · exact State.dispatchOpcode_inv (s := s.latchFailure.emit _) hs v d (s.granted_le hg) s.sectorIndex_le

theorem State.saveAll_inv {s : State} (hs : s.Inv) : s.saveAll.Inv := by
  have h1 : (s.saveStore .primary).Inv := State.saveStore_inv hs _
  obtain ⟨-, h⟩ | ⟨-, -, h⟩ | ⟨-, -, h⟩ | ⟨-, -, h⟩ := s.saveAll_cases <;> rw [h]
  · exact h1
  · exact h1
  · exact State.saveStore_inv (s := (s.saveStore .primary).emit _) h1 .secondary
  · exact h1

/-- Every instruction keeps the invariant. -/
theorem exec_inv {i : Instr} {s t : State} (hs : s.Inv) (h : exec i s = .next t) : t.Inv := by
  cases ho : i.isOperation with
  | true =>
    obtain ⟨v, hv⟩ := exec_of_isOperation ho
    cases (hv s).symm.trans h
    exact State.diskOperation_inv hs v
  | false =>
    by_cases hc : i = .ctlsave
    · subst hc; cases h; exact State.saveAll_inv hs
    · exact hs.of_frame (exec_frame ho hc h)

/-- Settles O48: a step is nothing, a landing, a CPU store or an instruction, and each keeps the invariant. -/
theorem soundStateStaysSound : Obligations.SoundStateStaysSound := by
  intro s t hs h
  obtain ⟨-, rfl⟩ | ⟨-, -, rfl⟩ | ⟨a, b, -, -, -, rfl⟩ | ⟨w, -, -, -, hw⟩ := step_cases h
  · exact hs
  · exact State.land_inv hs
  · exact State.cpuStore_inv (State.land_inv hs) a b
  · exact exec_inv (State.land_inv hs) hw

/-- Settles O47: reset takes the parameters, the memory and the stores as it finds them (R202); those `State.reset` finds are in
bounds whatever the free values, and empty. -/
theorem resetStateIsSound : Obligations.ResetStateIsSound := by
  have hall : ∀ r : ResetInputs, r.geom.wf → Memory.wf r.mem → r.primary.wf r.geom → r.secondary.wf r.geom →
      (State.resetWith r).Inv := fun _ hg hm hp hq => ⟨hg, hm, hp, hq⟩
  have hgeom : ResetInputs.chosen.geom.wf := by
    have := Config.sectorSizeLessOne.isLt
    simp only [Geometry.wf, ResetInputs.chosen, Config.sectorSize, Config.sectorsPerTrack]
    omega
  have hempty : ∀ r, (⟨r, [], false⟩ : Store).wf ResetInputs.chosen.geom := fun _ => ⟨.nil, nofun⟩
  exact ⟨hall _ hgeom ⟨.nil, nofun⟩ (hempty _) (hempty _), hall⟩

/-! ## Completion -/

@[simp] theorem State.readSector_pending (s : State) (d : Drive) (a : Addr) (idx : Nat) :
    (s.readSector d a idx).pending = s.pending := rfl

@[simp] theorem State.writeSector_pending (s : State) (d : Drive) (a : Addr) (idx : Nat) :
    (s.writeSector d a idx).pending = s.pending := by
  simp [State.writeSector]

@[simp] theorem State.dispatchOpcode_pending (s : State) (v : Byte) (d : Drive) (a : Addr) (idx : Nat) :
    (s.dispatchOpcode v d a idx).pending = s.pending := by
  unfold State.dispatchOpcode
  split
  · exact s.readSector_pending d a idx
  · split
    · exact s.writeSector_pending d a idx
    · rfl

/-- The operation itself leaves the CPU core's actions alone: the transaction ends after it. -/
@[simp] theorem State.diskOperation_pending (s : State) (v : Byte) : (s.diskOperation v).pending = s.pending := by
  obtain ⟨-, h⟩ | ⟨d, -, -, h⟩ | ⟨d, -, -, h⟩ := s.diskOperation_cases v <;> simp [h]

/-- `Con.Get()` completes with a byte unless an empty console holds the bus master (R121, R187). -/
theorem State.getChar_completes {s : State} (h : s.console ≠ [] ∨ s.now.emptyGet ≠ none) :
    ∃ (u : State) (b : Byte), s.getChar = u.completeRead b ∧ u.pending = s.pending := by
  obtain ⟨b, rest, -, e⟩ | ⟨b, -, -, e⟩ | ⟨hc, he, -⟩ := s.getChar_cases
  · exact ⟨_, b, e, rfl⟩
  · exact ⟨_, b, e, rfl⟩
  · exact absurd h (by simp [hc, he])

/-- A save completes unless the machine stops between the two saves (R171). -/
theorem State.saveAll_completes {s : State}
    (h : s.now.saveStop = .goesOn ∨ (s.now.saveStop = .beforeSecondSave ∧ s.now.available = false)) :
    ∃ u : State, s.saveAll = u.completeWrite ∧ u.pending = s.pending := by
  obtain ⟨hs, -⟩ | ⟨hs, ha, -⟩ | ⟨-, -, e⟩ | ⟨-, -, e⟩ := s.saveAll_cases
  · simp [hs] at h
  · simp [hs, ha] at h
  · exact ⟨_, e, by simp⟩
  · exact ⟨_, e, by simp⟩

/-- But for the two exceptions, an instruction ends by completing its transaction, with a byte exactly for a read. -/
theorem exec_completes {i : Instr} {s : State} (hget : i = .conin → s.console ≠ [] ∨ s.now.emptyGet ≠ none)
    (hsave : i = .ctlsave → s.now.saveStop = .goesOn ∨ (s.now.saveStop = .beforeSecondSave ∧ s.now.available = false)) :
    ∃ (u : State) (r : Option Byte), exec i s = .next (u.complete r) ∧ u.pending = s.pending ∧ r.isSome = i.isRead := by
  cases i with
  | conin =>
    obtain ⟨u, b, e, hu⟩ := State.getChar_completes (hget rfl)
    exact ⟨u, some b, congrArg _ e, hu, rfl⟩
  | ctlsave =>
    obtain ⟨u, e, hu⟩ := State.saveAll_completes (hsave rfl)
    exact ⟨u, none, congrArg _ e, hu, rfl⟩
  | dskrd | dskwr | dskinv => exact ⟨_, none, rfl, s.diskOperation_pending _, rfl⟩
  | const | dskstat | dskcnt | inunmap => exact ⟨_, some _, rfl, rfl, rfl⟩
  | conout | settrk | setsec | setdmal | setdmah | setdrv | ctlquit | ctlnop | outunmap => exact ⟨_, none, rfl, rfl, rfl⟩

/-- Settles O10: every instruction that is not held or stopped ends in `State.complete`. -/
theorem everyTransactionCompletes : Obligations.EveryTransactionCompletes := by
  intro i s hget hsave
  obtain ⟨u, r, he, hp, hr⟩ := exec_completes hget hsave
  exact ⟨u.complete r, he, by rw [State.complete_pending, hp], hr⟩

/-! ## The step's own statements -/

/-- Settles O7: the equation of a step with a transaction, and the answers that land are the next listed ones. -/
theorem stepRunsDecodedTransaction : Obligations.StepRunsDecodedTransaction := by
  intro s w rest hr hp
  refine ⟨step_of_bus hr hp, rfl, fun a l hl => ?_⟩
  simp [State.land, State.nextAnswers, hl]

/-- Settles O8: the equations of an idle step and of a CPU store, whose memory is read back by `Memory.read_write`. -/
theorem stepWithoutTransaction : Obligations.StepWithoutTransaction := by
  intro s hr
  refine ⟨step_of_idle hr, fun a b rest hp => ⟨Memory.write s.mem a.toNat b, ?_, fun x => Memory.read_write ..⟩⟩
  simp [step_of_store hr hp, State.cpuStore, hp]

end Sys2Proof.Machine

/-! # The register file, the drive count and the DMA window (spec/10_state.md R25, R27, R34; spec/20_memory.md R54) -/

namespace Sys2Proof.Machine

/-! ## What an operation changes in the registers and in memory -/

@[simp] theorem State.writeSector_regs (s : State) (d : Drive) (a : Addr) (idx : Nat) :
    (s.writeSector d a idx).regs =
      { s.regs with lastok := ((s.store d).write s.now idx (memRead s.mem a.toNat s.geom.sectorSize)).1 } := by
  simp [State.writeSector]

/-- A WRITE leaves memory as it was (R144). -/
@[simp] theorem State.writeSector_mem (s : State) (d : Drive) (a : Addr) (idx : Nat) :
    (s.writeSector d a idx).mem = s.mem := by
  simp [State.writeSector]

/-- Of the registers, step 5 changes the latch only. -/
theorem State.dispatchOpcode_regs (s : State) (v : Byte) (d : Drive) (a : Addr) (idx : Nat) :
    ∃ ok, (s.dispatchOpcode v d a idx).regs = { s.regs with lastok := ok } := by
  by_cases hr : v = opRead
  · rw [hr, State.dispatchOpcode_read]; exact ⟨_, rfl⟩
  · by_cases hw : v = opWrite
    · rw [hw, State.dispatchOpcode_write]; exact ⟨_, s.writeSector_regs ..⟩
    · rw [State.dispatchOpcode_other _ _ hr hw]; exact ⟨_, rfl⟩

/-- Of the registers, an operation write changes the latch only. -/
theorem State.diskOperation_regs (s : State) (v : Byte) :
    ∃ ok, (s.diskOperation v).regs = { s.regs with lastok := ok } := by
  obtain ⟨-, h⟩ | ⟨d, -, -, h⟩ | ⟨d, -, -, h⟩ := s.diskOperation_cases v <;> rw [h]
  · exact ⟨_, rfl⟩
  · exact ⟨_, rfl⟩
  · exact State.dispatchOpcode_regs ..

/-- Only READ changes memory, and inside the window only. -/
theorem State.dispatchOpcode_mem_change {s : State} {v : Byte} {d : Drive} {a : Addr} {idx x : Nat}
    (h : Memory.read (s.dispatchOpcode v d a idx).mem x ≠ Memory.read s.mem x) :
    v = opRead ∧ a.toNat ≤ x ∧ x < a.toNat + s.geom.sectorSize := by
  by_cases hr : v = opRead
  · rw [hr, State.dispatchOpcode_read] at h
    obtain ⟨ok, m, e, hout, -⟩ := s.readSector_spec d a idx
    rw [e] at h
    refine ⟨hr, ?_⟩
    by_contra hx
    exact h (hout x (by omega))
  · by_cases hw : v = opWrite
    · rw [hw, State.dispatchOpcode_write, State.writeSector_mem] at h; exact absurd rfl h
    · rw [State.dispatchOpcode_other _ _ hr hw] at h; exact absurd rfl h

/-- An operation write changes memory only as a READ that reaches step 5, and inside the window only. -/
theorem State.diskOperation_mem_change {s : State} {v : Byte} {x : Nat}
    (h : Memory.read (s.diskOperation v).mem x ≠ Memory.read s.mem x) :
    v = opRead ∧ s.regs.drvsel.toNat < s.regs.drvcnt.value ∧ s.granted s.regs.dma s.geom.sectorSize = true ∧
      s.regs.dma.toNat ≤ x ∧ x < s.regs.dma.toNat + s.geom.sectorSize := by
  obtain ⟨-, e⟩ | ⟨d, -, -, e⟩ | ⟨d, hd, hg, e⟩ := s.diskOperation_cases v <;> rw [e] at h
  · exact absurd rfl h
  · exact absurd rfl h
  · obtain ⟨hv, hx⟩ := State.dispatchOpcode_mem_change h
    exact ⟨hv, ((Regs.selectedDrive_eq_some _ _).1 hd).1, hg, hx⟩

/-! ## What the console and a save do not depend on -/

section getChar

variable {s : State} {b : Byte}

theorem State.getChar_of_buffered {rest : List Byte} (h : s.console = b :: rest) :
    s.getChar = { s with console := rest }.giveChar b := by
  simp [State.getChar, h]

theorem State.getChar_of_answer (h : s.console = []) (ha : s.now.emptyGet = some b) : s.getChar = s.giveChar b := by
  simp [State.getChar, h, ha]

theorem State.getChar_of_held (h : s.console = []) (ha : s.now.emptyGet = none) : s.getChar = s := by
  simp [State.getChar, h, ha]

end getChar

section saveAll

variable {s : State}

theorem State.saveAll_of_beforeQuery (h : s.now.saveStop = .beforeQuery) : s.saveAll = (s.saveStore .primary).stop := by
  simp [State.saveAll, h]

theorem State.saveAll_of_beforeSecondSave (h : s.now.saveStop = .beforeSecondSave) (ha : s.now.available = true) :
    s.saveAll = ((s.saveStore .primary).emit (.stoAvail .secondary true)).stop := by
  simp [State.saveAll, State.saveSecondary, h, ha]

theorem State.saveAll_of_goesOn (h : s.now.saveStop = .goesOn) (ha : s.now.available = true) :
    s.saveAll = (((s.saveStore .primary).emit (.stoAvail .secondary true)).saveStore .secondary).completeWrite := by
  simp [State.saveAll, State.saveSecondary, h, ha]

theorem State.saveAll_of_unavailable (h : s.now.saveStop ≠ .beforeQuery) (ha : s.now.available = false) :
    s.saveAll = ((s.saveStore .primary).emit (.stoAvail .secondary false)).completeWrite := by
  simp [State.saveAll, State.saveSecondary, h, ha]

end saveAll

/-- `Con.Get()` reads no register and changes none. -/
theorem State.getChar_withRegs (s : State) (r : Regs) : { s with regs := r }.getChar = { s.getChar with regs := r } := by
  obtain ⟨b, rest, hc, e⟩ | ⟨b, hc, ha, e⟩ | ⟨hc, ha, e⟩ := s.getChar_cases <;> rw [e]
  · exact State.getChar_of_buffered (s := { s with regs := r }) hc
  · exact State.getChar_of_answer (s := { s with regs := r }) hc ha
  · exact State.getChar_of_held (s := { s with regs := r }) hc ha

/-- `Con.Get()` reads no memory and changes none. -/
theorem State.getChar_setMem (s : State) (m : Memory) : (s.setMem m).getChar = s.getChar.setMem m := by
  obtain ⟨b, rest, hc, e⟩ | ⟨b, hc, ha, e⟩ | ⟨hc, ha, e⟩ := s.getChar_cases <;> rw [e]
  · exact State.getChar_of_buffered (s := s.setMem m) hc
  · exact State.getChar_of_answer (s := s.setMem m) hc ha
  · exact State.getChar_of_held (s := s.setMem m) hc ha

theorem State.getChar_regs (s : State) : s.getChar.regs = s.regs := by
  obtain ⟨b, rest, -, e⟩ | ⟨b, -, -, e⟩ | ⟨-, -, e⟩ := s.getChar_cases <;> rw [e] <;> rfl

theorem State.saveAll_frame (s : State) : s.saveAll.regs = s.regs ∧ s.saveAll.mem = s.mem := by
  obtain ⟨-, e⟩ | ⟨-, -, e⟩ | ⟨-, -, e⟩ | ⟨-, -, e⟩ := s.saveAll_cases <;> rw [e] <;> exact ⟨rfl, rfl⟩

/-- A save reads no memory and changes none. -/
theorem State.saveAll_setMem (s : State) (m : Memory) : (s.setMem m).saveAll = s.saveAll.setMem m := by
  obtain ⟨hs, e⟩ | ⟨hs, ha, e⟩ | ⟨hs, ha, e⟩ | ⟨hs, ha, e⟩ := s.saveAll_cases <;> rw [e]
  · exact State.saveAll_of_beforeQuery (s := s.setMem m) hs
  · exact State.saveAll_of_beforeSecondSave (s := s.setMem m) hs ha
  · exact State.saveAll_of_goesOn (s := s.setMem m) hs ha
  · exact State.saveAll_of_unavailable (s := s.setMem m) hs ha

/-! ## Registers and their writers -/

theorem exec_regs_of_isOperation {i : Instr} (s : State) (h : i.isOperation = true) :
    ∃ t ok, exec i s = .next t ∧ t.regs = { s.regs with lastok := ok } := by
  obtain ⟨v, hv⟩ := exec_of_isOperation h
  obtain ⟨ok, hr⟩ := s.diskOperation_regs v
  exact ⟨_, ok, hv s, hr⟩

/-- Settles O43: an operation write changes the latch only, `CONIN` and `CTLSAVE` no register, and every other instruction at most
its own; of the reads, two answer from the latch and the count, the others from no register. -/
theorem eachRegisterHasOneWriter : Obligations.EachRegisterHasOneWriter := by
  refine ⟨fun i s => ?_, fun i v s hi => ?_, fun i s r hi hl hc => ?_⟩
  · have hop := exec_regs_of_isOperation (i := i) s
    cases i with
    | conin =>
      have h := s.getChar_regs
      exact ⟨_, rfl, by simp [h]⟩
    | ctlsave =>
      obtain ⟨h, -⟩ := s.saveAll_frame
      exact ⟨_, rfl, by simp [h]⟩
    | dskrd | dskwr | dskinv =>
      obtain ⟨t, ok, h, hr⟩ := hop rfl
      exact ⟨t, h, by simp [hr, Instr.isOperation]⟩
    | const | conout | settrk | setsec | setdmal | setdmah | dskstat | dskcnt | setdrv | ctlquit | ctlnop | inunmap
    | outunmap => exact ⟨_, rfl, rfl, rfl, rfl, rfl, rfl, rfl, fun _ => rfl⟩
  · simp only [List.mem_cons, List.not_mem_nil, or_false] at hi
    obtain rfl | rfl | rfl | rfl | rfl := hi <;> exact ⟨_, rfl⟩
  · cases i with
    | conin => exact ⟨_, rfl, congrArg _ (s.getChar_withRegs r)⟩
    | dskstat => exact ⟨_, rfl, by rw [← hl]; rfl⟩
    | dskcnt => exact ⟨_, rfl, by rw [← hc]; rfl⟩
    | const | inunmap => exact ⟨_, rfl, rfl⟩
    | conout | settrk | setsec | setdmal | setdmah | dskrd | dskwr | dskinv | setdrv | ctlsave | ctlquit | ctlnop
    | outunmap => cases hi

/-! ## Whole runs -/

/-- What neither landing inputs, nor a CPU store, nor any instruction changes is the same in every state reached. -/
theorem Reaches.keeps {α : Type} (f : State → α) (hland : ∀ s, f s.land = f s)
    (hstore : ∀ s a b, f (State.cpuStore s a b) = f s) (hexec : ∀ i s t, exec i s = .next t → f t = f s) {s t : State}
    (h : Reaches s t) : f t = f s := by
  induction h with
  | start => rfl
  | step _ hstep ih =>
    rw [← ih]
    obtain ⟨-, rfl⟩ | ⟨-, -, rfl⟩ | ⟨a, b, -, -, -, rfl⟩ | ⟨w, -, -, -, hw⟩ := step_cases hstep
    · rfl
    · exact hland _
    · exact (hstore _ a b).trans (hland _)
    · exact (hexec _ _ _ hw).trans (hland _)

theorem exec_drvcnt {i : Instr} {s t : State} (h : exec i s = .next t) : t.regs.drvcnt = s.regs.drvcnt := by
  obtain ⟨u, hu, -, -, -, -, -, hc, -⟩ := eachRegisterHasOneWriter.1 i s
  cases hu.symm.trans h
  exact hc

theorem Reaches.drvcnt {s t : State} (h : Reaches s t) : t.regs.drvcnt = s.regs.drvcnt :=
  h.keeps (·.regs.drvcnt) (fun _ => rfl) (fun _ _ _ => rfl) fun _ _ _ => exec_drvcnt

/-- Settles O41: reset samples the answer, and no step of a run writes the count. -/
theorem driveCountNeverChanges : Obligations.DriveCountNeverChanges := by
  refine ⟨fun r => ?_, fun s t => Reaches.drvcnt, fun s => ⟨s.regs.drvcnt.value_eq, _, rfl, rfl⟩⟩
  cases h : r.available <;> simp [State.resetWith, h, DriveCount.value]

/-! ## Two memories that agree on the window -/

/-- Two memories hold the same `n` bytes from `a` on. -/
def Memory.AgreeOn (a n : Nat) (m m' : Memory) : Prop := ∀ k < n, Memory.read m (a + k) = Memory.read m' (a + k)

/-- `m'` is `inner` on the `n` bytes from `a` on, and `outer` elsewhere. -/
def Memory.IsSplice (a n : Nat) (inner outer m' : Memory) : Prop :=
  ∀ x, Memory.read m' x = if a ≤ x ∧ x < a + n then Memory.read inner x else Memory.read outer x

/-- A memory that agrees on the window is its own splice. -/
theorem Memory.AgreeOn.isSplice {a n : Nat} {m m' : Memory} (h : Memory.AgreeOn a n m m') :
    Memory.IsSplice a n m' m m := by
  intro x
  split
  · next hx => simpa [Nat.add_sub_cancel' hx.1] using h (x - a) (by omega)
  · rfl

/-- Writing the same bytes into two memories: the window is then common, the rest each memory's own. -/
theorem Memory.isSplice_memWrite (a : Nat) (v : List Byte) (m m' : Memory) :
    Memory.IsSplice a v.length (memWrite m' a v) m (memWrite m a v) := by
  intro x
  simp only [memRead_byte_memWrite]
  by_cases hx : a ≤ x ∧ x < a + v.length
  · simp only [if_pos hx]
  · simp only [if_neg hx]

/-- With other memory outside the window a READ does the same. -/
theorem State.readSector_setMem {s : State} {a : Addr} {m : Memory}
    (h : Memory.AgreeOn a.toNat s.geom.sectorSize m s.mem) (d : Drive) (idx : Nat) :
    ∃ m', (s.setMem m).readSector d a idx = (s.readSector d a idx).setMem m' ∧
      Memory.IsSplice a.toNat s.geom.sectorSize (s.readSector d a idx).mem m m' := by
  have hold : memRead m a.toNat s.geom.sectorSize = memRead s.mem a.toNat s.geom.sectorSize := memRead_congr _ _ h
  have hsplice := Memory.isSplice_memWrite a.toNat
    ((s.store d).read s.now idx (memRead s.mem a.toNat s.geom.sectorSize)).2 m s.mem
  rw [Store.read_length, memRead_length] at hsplice
  refine ⟨_, ?_, hsplice⟩
  simp only [State.readSector, State.setMem_mem, State.setMem_geom, hold]
  rfl

/-- With other memory outside the window a WRITE does the same. -/
theorem State.writeSector_setMem {s : State} {a : Addr} {m : Memory}
    (h : Memory.AgreeOn a.toNat s.geom.sectorSize m s.mem) (d : Drive) (idx : Nat) :
    (s.setMem m).writeSector d a idx = (s.writeSector d a idx).setMem m := by
  have hold : memRead m a.toNat s.geom.sectorSize = memRead s.mem a.toNat s.geom.sectorSize := memRead_congr _ _ h
  simp only [State.writeSector, State.setMem_mem, State.setMem_geom, hold]
  cases d <;> rfl

theorem State.dispatchOpcode_setMem {s : State} {a : Addr} {m : Memory}
    (h : Memory.AgreeOn a.toNat s.geom.sectorSize m s.mem) (v : Byte) (d : Drive) (idx : Nat) :
    ∃ m', (s.setMem m).dispatchOpcode v d a idx = (s.dispatchOpcode v d a idx).setMem m' ∧
      Memory.IsSplice a.toNat s.geom.sectorSize (s.dispatchOpcode v d a idx).mem m m' := by
  by_cases hr : v = opRead
  · simp only [hr, State.dispatchOpcode_read]
    exact State.readSector_setMem h d idx
  · by_cases hw : v = opWrite
    · simp only [hw, State.dispatchOpcode_write]
      exact ⟨m, State.writeSector_setMem h d idx, by rw [State.writeSector_mem]; exact h.isSplice⟩
    · simp only [State.dispatchOpcode_other _ _ hr hw]
      exact ⟨m, rfl, h.isSplice⟩

/-- With other memory outside the granted window, if there is one, an operation write does the same. -/
theorem State.diskOperation_setMem {s : State} {m : Memory}
    (h : s.regs.drvsel.toNat < s.regs.drvcnt.value → s.granted s.regs.dma s.geom.sectorSize = true →
      Memory.AgreeOn s.regs.dma.toNat s.geom.sectorSize m s.mem) (v : Byte) :
    ∃ m', (s.setMem m).diskOperation v = (s.diskOperation v).setMem m' ∧
      ∀ x, Memory.read m' x =
        if s.regs.drvsel.toNat < s.regs.drvcnt.value ∧ s.granted s.regs.dma s.geom.sectorSize = true ∧
            s.regs.dma.toNat ≤ x ∧ x < s.regs.dma.toNat + s.geom.sectorSize
        then Memory.read (s.diskOperation v).mem x else Memory.read m x := by
  obtain ⟨hd, e⟩ | ⟨d, hd, hg, e⟩ | ⟨d, hd, hg, e⟩ := s.diskOperation_cases v <;> rw [e]
  · have hlt := Nat.not_lt.2 ((Regs.selectedDrive_eq_none _).1 hd)
    exact ⟨m, (s.setMem m).diskOperation_invalid v hd, fun x => by rw [if_neg fun hx => hlt hx.1]⟩
  · exact ⟨m, (s.setMem m).diskOperation_refused v hd hg, fun x => by simp [hg]⟩
  · have hlt := ((Regs.selectedDrive_eq_some _ _).1 hd).1
    obtain ⟨m', e', hm'⟩ := State.dispatchOpcode_setMem
      (s := s.latchFailure.emit (.dmaReq s.regs.dma s.geom.sectorSize true)) (h hlt hg) v d s.sectorIndex
    refine ⟨m', ((s.setMem m).diskOperation_granted v hd hg).trans e', fun x => (hm' x).trans ?_⟩
    simp only [hlt, hg, true_and]
    rfl

/-- No instruction but an operation write reads or changes memory. -/
theorem exec_setMem_of_not_isOperation {i : Instr} (h : i.isOperation = false) (s : State) :
    ∃ t, exec i s = .next t ∧ t.mem = s.mem ∧ ∀ m, exec i (s.setMem m) = .next (t.setMem m) := by
  cases i with
  | conin =>
    obtain ⟨-, hm, -, -⟩ := s.getChar_frame
    exact ⟨_, rfl, hm, fun m => congrArg _ (s.getChar_setMem m)⟩
  | ctlsave =>
    obtain ⟨-, hm⟩ := s.saveAll_frame
    exact ⟨_, rfl, hm, fun m => congrArg _ (s.saveAll_setMem m)⟩
  | dskrd | dskwr | dskinv => cases h
  | const | conout | settrk | setsec | setdmal | setdmah | dskstat | dskcnt | setdrv | ctlquit | ctlnop | inunmap
  | outunmap => exact ⟨_, rfl, rfl, fun _ => rfl⟩

/-- A well-formed operation write with the READ opcode is `DSKRD` (R147). -/
theorem exec_of_wellFormed_operation {i : Instr} (hw : i.wellFormed = true) (h : i.isOperation = true) :
    ∃ v, (∀ s, exec i s = .next (s.diskOperation v).completeWrite) ∧ (v = opRead → i = .dskrd) := by
  cases i with
  | dskrd => exact ⟨opRead, fun _ => rfl, fun _ => rfl⟩
  | dskwr => exact ⟨opWrite, fun _ => rfl, fun hv => absurd hv (by decide)⟩
  | dskinv v => exact ⟨v, fun _ => rfl, fun hv => by simp [Instr.wellFormed, hv] at hw⟩
  | const | conin | conout | settrk | setsec | setdmal | setdmah | dskstat | dskcnt | setdrv | ctlsave | ctlquit
  | ctlnop | inunmap | outunmap => cases h

/-- Settles O44: of the instructions only operation writes touch memory; of those only a READ changes it, and all of them reach it
through the granted window. -/
theorem memoryIsReachedThroughWindowOnly : Obligations.MemoryIsReachedThroughWindowOnly := by
  refine ⟨fun i s hwf => ?_, fun i s m hagree => ?_⟩
  · cases ho : i.isOperation with
    | false =>
      obtain ⟨t, ht, hm, -⟩ := exec_setMem_of_not_isOperation ho s
      exact ⟨t, ht, fun x hx => absurd (by rw [hm]) hx⟩
    | true =>
      obtain ⟨v, hv, hread⟩ := exec_of_wellFormed_operation hwf ho
      refine ⟨_, hv s, fun x hx => ?_⟩
      obtain ⟨rfl, hd, hg, hlo, hhi⟩ := State.diskOperation_mem_change hx
      have hend := s.granted_le hg
      exact ⟨hread rfl, hd, (Bool.and_eq_true_iff.1 hg).1, hlo, hhi, by omega⟩
  · cases ho : i.isOperation with
    | false =>
      obtain ⟨t, ht, -, hm⟩ := exec_setMem_of_not_isOperation ho s
      exact ⟨t, m, ht, hm m, fun x => by simp⟩
    | true =>
      obtain ⟨v, hv⟩ := exec_of_isOperation ho
      obtain ⟨m', e, hm'⟩ := State.diskOperation_setMem (hagree ho) v
      refine ⟨_, m', hv s, (hv (s.setMem m)).trans (by rw [e]; rfl), fun x => ?_⟩
      simpa using hm' x

end Sys2Proof.Machine

/-! # Sector transfers between the DMA window and the stores (spec/20_memory.md R50, R57, R60, R61, R64) -/

namespace Sys2Proof

/-- A 17-bit row of the operation port leaves only the opcode to look at (R83, R85). -/
theorem decode_operation_row {w : TWord} {v : Byte}
    (h : w &&& 0x100FFFF#25 = BitVec.ofBool true ++ 0#8 ++ 0x14#8 ++ v) : decode w = decodeOperation v := by
  obtain ⟨hw, hp, hd⟩ := (mask_command_row w v 0x14#8 true).1 h
  simp [decode, decodeOut, hw, hp, hd]

@[simp] theorem decode_outWord (p : Port) (v : Byte) : decode (outWord p v) = decodeOut p v := by
  simp [decode]

end Sys2Proof

namespace Sys2Proof.Machine

/-! ## The composed DMA address -/

/-- Settles O21: each port writes its own half, and the address is 256 times the high half plus the low one. -/
theorem dmaAddressIsLastLowAndHighByte : Obligations.DmaAddressIsLastLowAndHighByte := by
  intro s lo hi lo'
  have hlow : ∀ v t, exec (decode (outWord 0x0012#16 v)) t = .next (t.setDmalo v).completeWrite := fun v _ => by
    rw [decode_outWord, show decodeOut 0x0012#16 v = .setdmal v from rfl]; rfl
  have hhigh : ∀ v t, exec (decode (outWord 0x0013#16 v)) t = .next (t.setDmahi v).completeWrite := fun v _ => by
    rw [decode_outWord, show decodeOut 0x0013#16 v = .setdmah v from rfl]; rfl
  exact ⟨_, _, _, _, _, hlow lo s, hhigh hi _, hlow lo' _, hhigh hi s, hlow lo _, Regs.dma_toNat _, Regs.dma_toNat _,
    Regs.dma_toNat _, Regs.dma_toNat _, rfl⟩

/-! ## The stores under updates of other fields -/

section stores

variable (s : State) (d : Drive)

@[simp] theorem State.emit_store (e : Event) : (s.emit e).store d = s.store d := by cases d <;> rfl
@[simp] theorem State.setMem_store (m : Memory) : (s.setMem m).store d = s.store d := by cases d <;> rfl
@[simp] theorem State.setLastok_store (ok : Bool) : (s.setLastok ok).store d = s.store d := by cases d <;> rfl
@[simp] theorem State.latchFailure_store : s.latchFailure.store d = s.store d := by cases d <;> rfl
@[simp] theorem State.completeWrite_store : s.completeWrite.store d = s.store d := by cases d <;> rfl
@[simp] theorem State.land_store : s.land.store d = s.store d := by cases d <;> rfl
@[simp] theorem State.cpuStore_store (a : Addr) (b : Byte) : (s.cpuStore a b).store d = s.store d := by cases d <;> rfl

@[simp] theorem State.land_sectorIndex : s.land.sectorIndex = s.sectorIndex := rfl

theorem State.readSector_store (a : Addr) (idx : Nat) (e : Drive) : (s.readSector d a idx).store e = s.store e := by
  simp [State.readSector]

end stores

/-! ## The operation that reaches step 5 -/

theorem exec_dskrd (s : State) : exec .dskrd s = .next (s.diskOperation opRead).completeWrite := rfl

theorem exec_dskwr (s : State) : exec .dskwr s = .next (s.diskOperation opWrite).completeWrite := rfl

/-- A window the memory collaborator grants and that ends inside memory is granted (R55). -/
theorem State.granted_of_fits {s : State} {a : Addr} {n : Nat} (hg : s.now.grant = true) (hn : a.toNat + n ≤ 65536) :
    s.granted a n = true := by
  simp [State.granted, hg, hn]

/-- A drive number below the drive count selects its store (R141). -/
theorem Regs.selectedDrive_of_number {r : Regs} {d : Drive} (hd : r.drvsel.toNat = d.number)
    (hv : d.number < r.drvcnt.value) : r.selectedDrive = some d :=
  (r.selectedDrive_eq_some d).2 ⟨by omega, hd⟩

/-- A READ whose answer is known latches the flag and puts the bytes over the window. -/
theorem State.readSector_of_read {s : State} {d : Drive} {idx : Nat} {ok : Bool} {data : List Byte}
    (h : ∀ old, (s.store d).read s.now idx old = (ok, overWindow old data)) (a : Addr) :
    s.readSector d a idx = ((s.emit (.stoRead d idx ok)).setMem
      (memWrite s.mem a.toNat (overWindow (memRead s.mem a.toNat s.geom.sectorSize) data))).setLastok ok := by
  simp only [State.readSector, h]

/-- A `DSKRD` into a granted window: the store's flag is latched, the bytes it put stand in the window from its first byte on, and
every other byte is as before (R57, R145). -/
theorem exec_dskrd_granted {s : State} {d : Drive} {ok : Bool} {data : List Byte} (hd : s.regs.selectedDrive = some d)
    (hg : s.granted s.regs.dma s.geom.sectorSize = true)
    (hread : ∀ old, (s.store d).read s.now s.sectorIndex old = (ok, overWindow old data)) :
    ∃ m, exec .dskrd s =
        .next { s with regs := { s.regs with lastok := ok }, mem := m,
                       events := s.events ++ [.dmaReq s.regs.dma s.geom.sectorSize true, .stoRead d s.sectorIndex ok],
                       result := none, pending := s.pending.tail } ∧
      (∀ k < s.geom.sectorSize, Memory.read m (s.regs.dma.toNat + k) =
        if k < data.length then data.getD k 0#8 else Memory.read s.mem (s.regs.dma.toNat + k)) ∧
      ∀ x, (x < s.regs.dma.toNat ∨ s.regs.dma.toNat + s.geom.sectorSize ≤ x) → Memory.read m x = Memory.read s.mem x := by
  refine ⟨memWrite s.mem s.regs.dma.toNat (overWindow (memRead s.mem s.regs.dma.toNat s.geom.sectorSize) data), ?_,
    fun k hk => ?_, fun x hx => ?_⟩
  · rw [exec_dskrd, s.diskOperation_granted _ hd hg, State.dispatchOpcode_read,
      State.readSector_of_read (by simpa using hread), List.append_cons]
    rfl
  · rw [memRead_byte_memWrite, if_pos (by simp; omega), Nat.add_sub_cancel_left, overWindow_getD _ _ _ (by simpa)]
    simp [memRead_getElem? _ _ _ _ hk]
  · rw [memRead_byte_memWrite, if_neg (by simp; omega)]

/-- A `DSKWR` from a granted window: the store's flag is latched, the sector addressed is held if the store took it and open if not,
and every other sector, the other store and memory are as before (R57, R146). -/
theorem exec_dskwr_granted {s : State} {d : Drive} {ok : Bool} (hd : s.regs.selectedDrive = some d)
    (hg : s.granted s.regs.dma s.geom.sectorSize = true) (hok : (s.store d).writeFlag s.now s.sectorIndex = ok) :
    ∃ t, exec .dskwr s = .next t ∧
      t = { s with regs := { s.regs with lastok := ok }, primary := t.primary, secondary := t.secondary,
                   events := s.events ++ [.dmaReq s.regs.dma s.geom.sectorSize true,
                     .stoWrite d s.sectorIndex (memRead s.mem s.regs.dma.toNat s.geom.sectorSize) ok],
                   result := none, pending := s.pending.tail } ∧
      (∀ j, tableGet (t.store d).sectors j =
        if j = s.sectorIndex then (if ok then some (memRead s.mem s.regs.dma.toNat s.geom.sectorSize) else none)
        else tableGet (s.store d).sectors j) ∧
      (t.store d).unsaved = true ∧ (t.store d).rejects = (s.store d).rejects ∧ ∀ e, e ≠ d → t.store e = s.store e := by
  have hstore : ∀ e, (s.diskOperation opWrite).completeWrite.store e =
      if e = d then ((s.store d).write s.now s.sectorIndex (memRead s.mem s.regs.dma.toNat s.geom.sectorSize)).2
      else s.store e := by
    intro e
    simp [s.diskOperation_granted _ hd hg, State.dispatchOpcode_write, State.writeSector_store]
  refine ⟨_, exec_dskwr s, ?_, fun j => ?_, ?_, ?_, fun e he => ?_⟩
  · rw [s.diskOperation_granted _ hd hg, State.dispatchOpcode_write]
    subst hok
    rw [List.append_cons]
    cases d <;> rfl
  · rw [hstore, if_pos rfl, Store.write_sector, hok]
  · rw [hstore, if_pos rfl]; rfl
  · rw [hstore, if_pos rfl, Store.write_rejects]
  · rw [hstore, if_neg he]

/-- Settles O25: at an index it does not reject, the store returns the sector it holds, which covers the whole window. -/
theorem readOfHeldSectorFillsWindow : Obligations.ReadOfHeldSectorFillsWindow := by
  refine ⟨fun w hw => decode_operation_row (v := opRead) hw, fun s d sec hd hv hg hn hsec hrej hlen => ?_⟩
  obtain ⟨m, he, hin, hout⟩ := exec_dskrd_granted (Regs.selectedDrive_of_number hd hv) (State.granted_of_fits hg hn)
    (Store.read_held ((Store.accepts_iff _ _).2 hrej) hsec s.now)
  exact ⟨m, he, fun k hk => (hin k hk).trans (if_pos (hlen ▸ hk)), hout⟩

/-- Settles O26: of a sector the law does not fix, the store's answer is its free one. -/
theorem readOfOpenSectorFollowsStore : Obligations.ReadOfOpenSectorFollowsStore :=
  fun s _ hd hv hg hn hopen hrej =>
    exec_dskrd_granted (Regs.selectedDrive_of_number hd hv) (State.granted_of_fits hg hn)
      (Store.read_open ((Store.accepts_iff _ _).2 hrej) hopen s.now)

/-- Settles O27: at an index it does not reject the store's flag is its free one. -/
theorem writeSendsWindowToStore : Obligations.WriteSendsWindowToStore := by
  refine ⟨fun w hw => decode_operation_row (v := opWrite) hw, fun s d idx data hd hv hg hn hidx hrej hdata => ?_⟩
  subst hidx hdata
  exact exec_dskwr_granted (Regs.selectedDrive_of_number hd hv) (State.granted_of_fits hg hn)
    (Store.writeFlag_accepted ((Store.accepts_iff _ _).2 hrej) s.now)

/-! ## Which stores an instruction changes -/

/-- Everything step 5 can do: a READ, a WRITE, or nothing (R144, R147). -/
theorem State.dispatchOpcode_cases (s : State) (v : Byte) (d : Drive) (a : Addr) (idx : Nat) :
    (v = opRead ∧ s.dispatchOpcode v d a idx = s.readSector d a idx) ∨
    (v = opWrite ∧ s.dispatchOpcode v d a idx = s.writeSector d a idx) ∨
    (v ≠ opRead ∧ v ≠ opWrite ∧ s.dispatchOpcode v d a idx = s) := by
  by_cases hr : v = opRead
  · exact .inl ⟨hr, hr ▸ s.dispatchOpcode_read d a idx⟩
  · by_cases hw : v = opWrite
    · exact .inr (.inl ⟨hw, hw ▸ s.dispatchOpcode_write d a idx⟩)
    · exact .inr (.inr ⟨hr, hw, s.dispatchOpcode_other d hr hw a idx⟩)

/-- An operation write changes a sector only as a WRITE that reaches step 5, on the selected drive and at the index addressed. -/
theorem State.diskOperation_sector_change {s : State} {v : Byte} {d : Drive} {j : Nat}
    (h : tableGet ((s.diskOperation v).store d).sectors j ≠ tableGet (s.store d).sectors j) :
    v = opWrite ∧ s.regs.selectedDrive = some d ∧ s.granted s.regs.dma s.geom.sectorSize = true ∧ j = s.sectorIndex := by
  obtain ⟨-, e⟩ | ⟨c, -, -, e⟩ | ⟨c, hc, hg, e⟩ := s.diskOperation_cases v <;> rw [e] at h
  · simp at h
  · simp at h
  · obtain ⟨-, e'⟩ | ⟨hv, e'⟩ | ⟨-, -, e'⟩ := State.dispatchOpcode_cases _ v c s.regs.dma s.sectorIndex <;>
      rw [e'] at h
    · simp [State.readSector_store] at h
    · rw [State.writeSector_store] at h
      obtain rfl : d = c := by by_contra hne; simp [hne] at h
      rw [if_pos rfl, Store.write_sector] at h
      refine ⟨hv, hc, hg, ?_⟩
      by_contra hne
      simp [hne] at h
    · simp at h

theorem State.saveAll_geom_stores (s : State) : s.saveAll.geom = s.geom ∧
    ∀ d, (s.saveAll.store d).sectors = (s.store d).sectors ∧ (s.saveAll.store d).rejects = (s.store d).rejects := by
  obtain ⟨-, e⟩ | ⟨-, -, e⟩ | ⟨-, -, e⟩ | ⟨-, -, e⟩ := s.saveAll_cases <;> rw [e] <;>
    exact ⟨rfl, fun d => by cases d <;> exact ⟨rfl, rfl⟩⟩

/-- No instruction but an operation write changes the parameters or what a store holds or rejects. -/
theorem exec_geom_stores_of_not_isOperation {i : Instr} {s t : State} (ho : i.isOperation = false) (h : exec i s = .next t) :
    t.geom = s.geom ∧ ∀ d, (t.store d).sectors = (s.store d).sectors ∧ (t.store d).rejects = (s.store d).rejects := by
  by_cases hc : i = .ctlsave
  · subst hc; cases h; exact s.saveAll_geom_stores
  · obtain ⟨hg, -, hp, hq⟩ := exec_frame ho hc h
    exact ⟨hg, fun d => by cases d <;> simp [hp, hq]⟩

/-- A well-formed operation write with the WRITE opcode is `DSKWR` (R147). -/
theorem exec_of_wellFormed_write {i : Instr} (hw : i.wellFormed = true) (h : i.isOperation = true) :
    ∃ v, (∀ s, exec i s = .next (s.diskOperation v).completeWrite) ∧ (v = opWrite → i = .dskwr) := by
  cases i with
  | dskrd => exact ⟨opRead, fun _ => rfl, fun hv => absurd hv (by decide)⟩
  | dskwr => exact ⟨opWrite, fun _ => rfl, fun _ => rfl⟩
  | dskinv v => exact ⟨v, fun _ => rfl, fun hv => by simp [Instr.wellFormed, hv] at hw⟩
  | const | conin | conout | settrk | setsec | setdmal | setdmah | dskstat | dskcnt | setdrv | ctlsave | ctlquit
  | ctlnop | inunmap | outunmap => cases h

/-- Settles O45: of the instructions only operation writes reach what a store holds, and of those only a WRITE at step 5. -/
theorem storesChangeBySelectedWriteOnly : Obligations.StoresChangeBySelectedWriteOnly := by
  intro i s hwf
  cases ho : i.isOperation with
  | false =>
    obtain ⟨t, ht, -⟩ := exec_setMem_of_not_isOperation ho s
    obtain ⟨-, hst⟩ := exec_geom_stores_of_not_isOperation ho ht
    exact ⟨t, ht, fun d j hj => absurd (by rw [(hst d).1]) hj⟩
  | true =>
    obtain ⟨v, hv, hwrite⟩ := exec_of_wellFormed_write hwf ho
    refine ⟨_, hv s, fun d j hj => ?_⟩
    rw [State.completeWrite_store] at hj
    obtain ⟨rfl, hd, hg, hidx⟩ := State.diskOperation_sector_change hj
    obtain ⟨hlt, hnum⟩ := (Regs.selectedDrive_eq_some _ _).1 hd
    exact ⟨hwrite rfl, hnum, hnum ▸ hlt, hg, hidx⟩

/-! ## What an operation write changes of the parameters and the rejected indices -/

theorem State.dispatchOpcode_geom_rejects (s : State) (v : Byte) (c : Drive) (a : Addr) (idx : Nat) :
    (s.dispatchOpcode v c a idx).geom = s.geom ∧
      ∀ d, ((s.dispatchOpcode v c a idx).store d).rejects = (s.store d).rejects := by
  obtain ⟨-, e⟩ | ⟨-, e⟩ | ⟨-, -, e⟩ := s.dispatchOpcode_cases v c a idx <;> rw [e]
  · exact ⟨rfl, fun d => by rw [State.readSector_store]⟩
  · refine ⟨by simp [State.writeSector], fun d => ?_⟩
    rw [State.writeSector_store]
    split
    · next hd => rw [hd, Store.write_rejects]
    · rfl
  · exact ⟨rfl, fun _ => rfl⟩

/-- An operation write changes neither the parameters nor which indices a store rejects. -/
theorem State.diskOperation_geom_rejects (s : State) (v : Byte) : (s.diskOperation v).geom = s.geom ∧
    ∀ d, ((s.diskOperation v).store d).rejects = (s.store d).rejects := by
  obtain ⟨-, e⟩ | ⟨c, -, -, e⟩ | ⟨c, -, -, e⟩ := s.diskOperation_cases v <;> rw [e]
  · exact ⟨rfl, fun d => by simp⟩
  · exact ⟨rfl, fun d => by simp⟩
  · obtain ⟨hg, hr⟩ := State.dispatchOpcode_geom_rejects (s.latchFailure.emit (.dmaReq s.regs.dma s.geom.sectorSize true)) v c
      s.regs.dma s.sectorIndex
    exact ⟨hg, fun d => (hr d).trans (by simp)⟩

theorem exec_geom_rejects {i : Instr} {s t : State} (h : exec i s = .next t) :
    t.geom = s.geom ∧ ∀ d, (t.store d).rejects = (s.store d).rejects := by
  cases ho : i.isOperation with
  | true =>
    obtain ⟨v, hv⟩ := exec_of_isOperation ho
    cases (hv s).symm.trans h
    obtain ⟨hg, hr⟩ := s.diskOperation_geom_rejects v
    exact ⟨hg, fun d => by rw [State.completeWrite_store, hr]⟩
  | false =>
    obtain ⟨hg, hst⟩ := exec_geom_stores_of_not_isOperation ho h
    exact ⟨hg, fun d => (hst d).2⟩

theorem Reaches.geom {s t : State} (h : Reaches s t) : t.geom = s.geom :=
  h.keeps (·.geom) (fun _ => rfl) (fun _ _ _ => rfl) fun _ _ _ he => (exec_geom_rejects he).1

theorem Reaches.rejects {s t : State} (h : Reaches s t) (d : Drive) : (t.store d).rejects = (s.store d).rejects :=
  h.keeps (fun s => (s.store d).rejects) (fun s => by simp) (fun s a b => by simp) fun _ _ _ he => (exec_geom_rejects he).2 d

/-- Settles O50: a rejecting store answers false to both calls (R61), and no step of a run changes the rejected indices. -/
theorem rejectedIndexFailsBothCalls : Obligations.RejectedIndexFailsBothCalls := by
  refine ⟨fun s d idx hd hv hg hn hidx hrej => ?_, fun s t d h => h.rejects d⟩
  subst hidx
  have hsel := Regs.selectedDrive_of_number hd hv
  have hgr : s.granted s.regs.dma s.geom.sectorSize = true := State.granted_of_fits hg hn
  have hacc : (s.store d).accepts s.sectorIndex = false := by
    rw [← Bool.not_eq_true, Store.accepts_iff]; exact not_not_intro hrej
  refine ⟨exec_dskrd_granted hsel hgr (Store.read_rejected hacc s.now), ?_⟩
  obtain ⟨t, he, ht, hsec, -, -, hother⟩ := exec_dskwr_granted hsel hgr (Store.writeFlag_rejected hacc s.now)
  exact ⟨t, he, ht, hsec, hother⟩

/-! ## The calls of an operation write and its outcome -/

/-- One of the calls is a store call that reported success. -/
def ReportsSuccess (es : List Event) : Prop := ∃ d idx, .stoRead d idx true ∈ es ∨ ∃ data, .stoWrite d idx data true ∈ es

section calls

variable (a : Addr) (n : Nat) (g ok : Bool) (d : Drive) (idx : Nat) (data : List Byte)

theorem not_reportsSuccess_nil : ¬ ReportsSuccess [] := by simp [ReportsSuccess]

theorem not_reportsSuccess_dmaReq : ¬ ReportsSuccess [.dmaReq a n g] := by simp [ReportsSuccess]

theorem reportsSuccess_stoRead : ReportsSuccess [.dmaReq a n g, .stoRead d idx ok] ↔ ok = true := by
  simp [ReportsSuccess, eq_comm]

theorem reportsSuccess_stoWrite : ReportsSuccess [.dmaReq a n g, .stoWrite d idx data ok] ↔ ok = true := by
  simp [ReportsSuccess, eq_comm]

end calls

theorem State.readSector_events (s : State) (d : Drive) (a : Addr) (idx : Nat) :
    (s.readSector d a idx).events = s.events ++
      [.stoRead d idx ((s.store d).read s.now idx (memRead s.mem a.toNat s.geom.sectorSize)).1] := rfl

theorem State.writeSector_events (s : State) (d : Drive) (a : Addr) (idx : Nat) :
    (s.writeSector d a idx).events = s.events ++
      [.stoWrite d idx (memRead s.mem a.toNat s.geom.sectorSize) ((s.store d).writeFlag s.now idx)] := by
  cases d <;> rfl

/-- After an operation write the latch is true exactly when a store call among its calls reported success (R144). -/
theorem State.diskOperation_outcome (s : State) (v : Byte) : ∃ es, (s.diskOperation v).events = s.events ++ es ∧
    ((s.diskOperation v).regs.lastok = true ↔ ReportsSuccess es) := by
  obtain ⟨-, e⟩ | ⟨c, -, -, e⟩ | ⟨c, -, -, e⟩ := s.diskOperation_cases v <;> rw [e]
  · exact ⟨[], by simp, by simp [not_reportsSuccess_nil]⟩
  · exact ⟨[_], rfl, by simp [not_reportsSuccess_dmaReq]⟩
  · obtain ⟨-, e'⟩ | ⟨-, e'⟩ | ⟨-, -, e'⟩ := State.dispatchOpcode_cases _ v c s.regs.dma s.sectorIndex <;> rw [e']
    · exact ⟨_, (State.readSector_events ..).trans (List.append_assoc ..), (reportsSuccess_stoRead ..).symm⟩
    · exact ⟨_, (State.writeSector_events ..).trans (List.append_assoc ..), (reportsSuccess_stoWrite ..).symm⟩
    · exact ⟨[_], rfl, by simp [not_reportsSuccess_dmaReq]⟩

theorem diskStatusCode_cases (ok : Bool) : diskStatusCode ok = 0x00#8 ∨ diskStatusCode ok = 0x01#8 := by
  cases ok <;> simp [diskStatusCode]

theorem diskStatusCode_eq_zero (ok : Bool) : diskStatusCode ok = 0x00#8 ↔ ok = true := by
  cases ok <;> simp [diskStatusCode]

/-- Settles O32: the status read encodes the latch, and the operation left its own outcome there. -/
theorem statusReportsLastOperation : Obligations.StatusReportsLastOperation := by
  intro i s ho
  obtain ⟨v, hv⟩ := exec_of_isOperation ho
  obtain ⟨es, he, hok⟩ := s.diskOperation_outcome v
  refine ⟨_, _, es, hv s, rfl, he, ?_, ?_⟩
  · simpa only [State.completeRead_result, Option.some.injEq] using diskStatusCode_cases _
  · rw [State.completeRead_result, Option.some.injEq, diskStatusCode_eq_zero]
    exact hok

/-! ## Runs in which a sector is not written -/

/-- From `s` to `t` calls are only added, and a sector that no added call writes is held or open as before. -/
def State.LogsSectorWrites (s t : State) : Prop :=
  ∃ es, t.events = s.events ++ es ∧ ∀ d j, (∀ data ok, .stoWrite d j data ok ∉ es) →
    tableGet (t.store d).sectors j = tableGet (s.store d).sectors j

theorem State.LogsSectorWrites.of_same_sectors {s t : State} (es : List Event) (he : t.events = s.events ++ es)
    (h : ∀ d, (t.store d).sectors = (s.store d).sectors) : s.LogsSectorWrites t :=
  ⟨es, he, fun d _ _ => by rw [h d]⟩

theorem State.LogsSectorWrites.trans {s t u : State} (h : s.LogsSectorWrites t) (h' : t.LogsSectorWrites u) :
    s.LogsSectorWrites u := by
  obtain ⟨es, he, hs⟩ := h
  obtain ⟨es', he', hs'⟩ := h'
  refine ⟨es ++ es', by rw [he', he, List.append_assoc], fun d j hno => ?_⟩
  rw [hs' d j fun data ok hm => hno data ok (List.mem_append_right _ hm),
    hs d j fun data ok hm => hno data ok (List.mem_append_left _ hm)]

theorem State.diskOperation_logs (s : State) (v : Byte) : s.LogsSectorWrites (s.diskOperation v) := by
  obtain ⟨es, he, -⟩ := s.diskOperation_outcome v
  refine ⟨es, he, fun d j hno => ?_⟩
  by_contra hne
  obtain ⟨rfl, hd, hg, rfl⟩ := State.diskOperation_sector_change hne
  rw [s.diskOperation_granted _ hd hg, State.dispatchOpcode_write, State.writeSector_events, State.emit_events,
    State.latchFailure_events, List.append_assoc] at he
  obtain rfl := List.append_cancel_left he
  exact hno _ _ (List.mem_cons_of_mem _ List.mem_cons_self)

/-- No instruction takes back a call. -/
theorem exec_events_of_not_isOperation {i : Instr} {s t : State} (ho : i.isOperation = false) (h : exec i s = .next t) :
    ∃ es, t.events = s.events ++ es := by
  cases i with
  | conin =>
    cases h
    obtain ⟨b, rest, -, e⟩ | ⟨b, -, -, e⟩ | ⟨-, -, e⟩ := s.getChar_cases <;> rw [e]
    · exact ⟨[_], rfl⟩
    · exact ⟨[_], rfl⟩
    · exact ⟨[], by simp⟩
  | ctlsave =>
    cases h
    obtain ⟨-, e⟩ | ⟨-, -, e⟩ | ⟨-, -, e⟩ | ⟨-, -, e⟩ := s.saveAll_cases <;> rw [e] <;> simp
  | dskrd | dskwr | dskinv => cases ho
  | const | conout | ctlquit => cases h; exact ⟨[_], rfl⟩
  | settrk | setsec | setdmal | setdmah | dskstat | dskcnt | setdrv | ctlnop | inunmap | outunmap =>
    cases h; exact ⟨[], (List.append_nil _).symm⟩

theorem exec_logs {i : Instr} {s t : State} (h : exec i s = .next t) : s.LogsSectorWrites t := by
  cases ho : i.isOperation with
  | true =>
    obtain ⟨v, hv⟩ := exec_of_isOperation ho
    cases (hv s).symm.trans h
    exact (s.diskOperation_logs v).trans (.of_same_sectors [] (by simp) fun d => by simp)
  | false =>
    obtain ⟨es, he⟩ := exec_events_of_not_isOperation ho h
    obtain ⟨-, hst⟩ := exec_geom_stores_of_not_isOperation ho h
    exact .of_same_sectors es he fun d => (hst d).1

theorem step_logs {s t : State} (h : step s = .next t) : s.LogsSectorWrites t := by
  have hland : s.LogsSectorWrites s.land := .of_same_sectors [] (by simp) fun d => by simp
  obtain ⟨-, rfl⟩ | ⟨-, -, rfl⟩ | ⟨a, b, -, -, -, rfl⟩ | ⟨w, -, -, -, hw⟩ := step_cases h
  · exact .of_same_sectors [] (by simp) fun _ => rfl
  · exact hland
  · exact hland.trans (.of_same_sectors [] (by simp) fun d => by simp)
  · exact hland.trans (exec_logs hw)

theorem Reaches.logs {s t : State} (h : Reaches s t) : s.LogsSectorWrites t := by
  induction h with
  | start => exact .of_same_sectors [] (by simp) fun _ => rfl
  | step _ hstep ih => exact ih.trans (step_logs hstep)

/-- A sector that no call of a run writes is held or open at the end as it was at the beginning. -/
theorem Reaches.sector_of_not_written {s t : State} (h : Reaches s t) {es : List Event} (he : t.events = s.events ++ es)
    {d : Drive} {j : Nat} (hno : ∀ data ok, .stoWrite d j data ok ∉ es) :
    tableGet (t.store d).sectors j = tableGet (s.store d).sectors j := by
  obtain ⟨es', he', hs⟩ := h.logs
  obtain rfl : es = es' := List.append_cancel_left (he.symm.trans he')
  exact hs d j hno

/-! ## The round trip -/

/-- What is reached after one step is reached. -/
theorem Reaches.of_step {s t u : State} (h : Reaches t u) (hstep : Steps s t) : Reaches s u := by
  induction h with
  | start => exact .step .start hstep
  | step _ hlast ih => exact .step ih hlast

theorem Drive.number_inj {c d : Drive} (h : c.number = d.number) : c = d := by
  cases c <;> cases d <;> simp [Drive.number] at h ⊢

/-- A `DSKWR` that latched success had a valid drive and an index the store does not reject, and the store holds the window. -/
theorem exec_dskwr_success {s t : State} {d : Drive} (h : exec .dskwr s = .next t) (hd : s.regs.drvsel.toNat = d.number)
    (hok : t.regs.lastok = true) :
    d.number < s.regs.drvcnt.value ∧ s.sectorIndex ∉ (t.store d).rejects ∧
      tableGet (t.store d).sectors s.sectorIndex = some (memRead s.mem s.regs.dma.toNat s.geom.sectorSize) := by
  obtain ⟨-, e⟩ | ⟨c, -, -, e⟩ | ⟨c, hc, hg, -⟩ := s.diskOperation_cases opWrite
  · cases h; simp [e] at hok
  · cases h; simp [e] at hok
  · obtain ⟨hlt, hnum⟩ := (Regs.selectedDrive_eq_some _ _).1 hc
    obtain rfl : c = d := Drive.number_inj (hnum.symm.trans hd)
    obtain ⟨t', he, ht, hsec, -, hrej, -⟩ := exec_dskwr_granted hc hg rfl
    cases h.symm.trans he
    have hflag : (s.store c).writeFlag s.now s.sectorIndex = true := by rw [ht] at hok; exact hok
    refine ⟨hd ▸ hlt, ?_, by rw [hsec, if_pos rfl, if_pos hflag]⟩
    rw [hrej]
    exact (Store.accepts_iff _ _).1 ((Bool.and_eq_true_iff.1 hflag).1)

/-- Settles O49: the write left the sector held at an index not rejected; a run that does not write it leaves both so, and the
parameters and the drive count too; so the read finds it and fills the window (O25). -/
theorem writeThenReadRoundTrips : Obligations.WriteThenReadRoundTrips := by
  intro s t u d ww wr restw restr es hrun hp hww hdrv hstep hok hreach hes hno hrunu hpu hwr hdrvu hidx hgrant hfit
  have hrun' : Reaches s u := hreach.of_step hstep
  have hwrite : exec .dskwr s.land = .next t := by rw [← hww, ← step_of_bus hrun hp, hstep]
  obtain ⟨hvalid, hrej, hheld⟩ := exec_dskwr_success hwrite hdrv hok
  have hheldu : tableGet (u.land.store d).sectors u.land.sectorIndex =
      some (memRead s.mem s.regs.dma.toNat s.geom.sectorSize) := by
    rw [State.land_store, State.land_sectorIndex, hidx, hreach.sector_of_not_written hes hno]
    exact hheld
  have hreju : u.land.sectorIndex ∉ (u.land.store d).rejects := by
    rw [State.land_store, State.land_sectorIndex, hidx, hreach.rejects]
    exact hrej
  have hvalidu : d.number < u.land.regs.drvcnt.value := by
    rw [State.land_regs, hrun'.drvcnt]
    exact hvalid
  have hlen : (memRead s.mem s.regs.dma.toNat s.geom.sectorSize).length = u.land.geom.sectorSize := by
    rw [memRead_length, State.land_geom, hrun'.geom]
  obtain ⟨m, hread, hin, -⟩ := readOfHeldSectorFillsWindow.2 u.land d _ hdrvu hvalidu hgrant hfit hheldu hreju hlen
  refine ⟨_, by rw [step_of_bus hrunu hpu, hwr, hread], rfl, fun k hk => ?_⟩
  rw [State.land_geom, hrun'.geom] at hin
  refine (hin k hk).trans ?_
  rw [List.getD_eq_getElem?_getD, memRead_getElem? _ _ _ _ hk, Option.getD_some]

end Sys2Proof.Machine

/-! # The encoding (spec/30_encoding.md R80 to R90) -/

namespace Sys2Proof

variable {w : TWord} {p : Port} {lo v : Byte}

/-! ## The port map -/

theorem mappedForReads_iff : mappedForReads lo = true ↔ lo = 0x00#8 ∨ lo = 0x01#8 ∨ lo = 0x15#8 ∨ lo = 0x16#8 := by
  simp [mappedForReads]

theorem mappedForWrites_iff : mappedForWrites lo = true ↔ lo = 0x02#8 ∨ lo = 0x10#8 ∨ lo = 0x11#8 ∨ lo = 0x12#8 ∨
    lo = 0x13#8 ∨ lo = 0x14#8 ∨ lo = 0x17#8 ∨ lo = 0xE0#8 := by
  simp [mappedForWrites]

theorem mappedForReads_eq_false :
    mappedForReads lo = false ↔ lo ≠ 0x00#8 ∧ lo ≠ 0x01#8 ∧ lo ≠ 0x15#8 ∧ lo ≠ 0x16#8 := by
  simp [mappedForReads]

theorem mappedForWrites_eq_false : mappedForWrites lo = false ↔ lo ≠ 0x02#8 ∧ lo ≠ 0x10#8 ∧ lo ≠ 0x11#8 ∧ lo ≠ 0x12#8 ∧
    lo ≠ 0x13#8 ∧ lo ≠ 0x14#8 ∧ lo ≠ 0x17#8 ∧ lo ≠ 0xE0#8 := by
  simp [mappedForWrites]

/-- No address is mapped in both directions (R84). -/
theorem not_mappedForReads_of_mappedForWrites (h : mappedForWrites lo = true) : mappedForReads lo = false := by
  obtain rfl | rfl | rfl | rfl | rfl | rfl | rfl | rfl := mappedForWrites_iff.1 h <;> rfl

theorem not_mappedForWrites_of_mappedForReads (h : mappedForReads lo = true) : mappedForWrites lo = false := by
  obtain rfl | rfl | rfl | rfl := mappedForReads_iff.1 h <;> rfl

/-! ## What the decoder answers -/

@[simp] theorem decode_inWord (p : Port) : decode (inWord p) = decodeIn p := by
  simp [decode]

theorem decodeIn_of_unmapped (h : mappedForReads (lo8 p) = false) : decodeIn p = .inunmap p := by
  simp [decodeIn, mappedForReads_eq_false.1 h]

theorem decodeOut_of_unmapped (h : mappedForWrites (lo8 p) = false) : decodeOut p v = .outunmap p v := by
  simp [decodeOut, mappedForWrites_eq_false.1 h]

/-- At a mapped address the high port byte is not looked at (R82). -/
theorem decodeIn_of_mapped (h : mappedForReads (lo8 p) = true) : decodeIn p = decodeIn (canonicalPort (lo8 p)) := by
  obtain h | h | h | h := mappedForReads_iff.1 h <;> simp [decodeIn, h]

theorem decodeOut_of_mapped (h : mappedForWrites (lo8 p) = true) :
    decodeOut p v = decodeOut (canonicalPort (lo8 p)) v := by
  obtain h | h | h | h | h | h | h | h := mappedForWrites_iff.1 h <;> simp [decodeOut, h]

section fields

variable (w)

theorem decode_of_unmapped_read (hd : w.isWrite = false) (hm : mappedForReads (lo8 w.port) = false) :
    decode w = .inunmap w.port := by
  rw [decode, hd]; exact decodeIn_of_unmapped hm

theorem decode_of_unmapped_write (hd : w.isWrite = true) (hm : mappedForWrites (lo8 w.port) = false) :
    decode w = .outunmap w.port w.data := by
  rw [decode, hd]; exact decodeOut_of_unmapped hm

theorem decode_of_mapped_read (hd : w.isWrite = false) (hm : mappedForReads (lo8 w.port) = true) :
    decode w = decodeIn (canonicalPort (lo8 w.port)) := by
  rw [decode, hd]; exact decodeIn_of_mapped hm

theorem decode_of_mapped_write (hd : w.isWrite = true) (hm : mappedForWrites (lo8 w.port) = true) :
    decode w = decodeOut (canonicalPort (lo8 w.port)) w.data := by
  rw [decode, hd]; exact decodeOut_of_mapped hm

/-- Everything the decoder can answer: an unmapped access with its port, or what the canonical port of the low byte stands for (R82). -/
theorem decode_cases :
    (w.isWrite = false ∧ mappedForReads (lo8 w.port) = false ∧ decode w = .inunmap w.port) ∨
    (w.isWrite = false ∧ mappedForReads (lo8 w.port) = true ∧ decode w = decodeIn (canonicalPort (lo8 w.port))) ∨
    (w.isWrite = true ∧ mappedForWrites (lo8 w.port) = false ∧ decode w = .outunmap w.port w.data) ∨
    (w.isWrite = true ∧ mappedForWrites (lo8 w.port) = true ∧ decode w = decodeOut (canonicalPort (lo8 w.port)) w.data) := by
  cases hd : w.isWrite with
  | false =>
    cases hm : mappedForReads (lo8 w.port) with
    | false => exact .inl ⟨rfl, rfl, decode_of_unmapped_read w hd hm⟩
    | true => exact .inr (.inl ⟨rfl, rfl, decode_of_mapped_read w hd hm⟩)
  | true =>
    cases hm : mappedForWrites (lo8 w.port) with
    | false => exact .inr (.inr (.inl ⟨rfl, rfl, decode_of_unmapped_write w hd hm⟩))
    | true => exact .inr (.inr (.inr ⟨rfl, rfl, decode_of_mapped_write w hd hm⟩))

end fields

theorem decodeOperation_of_other (hr : v ≠ opRead) (hw : v ≠ opWrite) : decodeOperation v = .dskinv v := by
  simp [decodeOperation, hr, hw]

theorem decodeControl_of_other (hs : v ≠ opSave) (hq : v ≠ opQuit) : decodeControl v = .ctlnop v := by
  simp [decodeControl, hs, hq]

/-- The three rows of the operation port (R145 to R147). -/
theorem decodeOperation_cases (v : Byte) : (v = opRead ∧ decodeOperation v = .dskrd) ∨
    (v = opWrite ∧ decodeOperation v = .dskwr) ∨ (v ≠ opRead ∧ v ≠ opWrite ∧ decodeOperation v = .dskinv v) := by
  by_cases hr : v = opRead
  · exact .inl ⟨hr, by rw [hr]; rfl⟩
  · by_cases hw : v = opWrite
    · exact .inr (.inl ⟨hw, by rw [hw]; rfl⟩)
    · exact .inr (.inr ⟨hr, hw, decodeOperation_of_other hr hw⟩)

/-- The three rows of the control port (R171 to R173). -/
theorem decodeControl_cases (v : Byte) : (v = opSave ∧ decodeControl v = .ctlsave) ∨
    (v = opQuit ∧ decodeControl v = .ctlquit) ∨ (v ≠ opSave ∧ v ≠ opQuit ∧ decodeControl v = .ctlnop v) := by
  by_cases hs : v = opSave
  · exact .inl ⟨hs, by rw [hs]; rfl⟩
  · by_cases hq : v = opQuit
    · exact .inr (.inl ⟨hq, by rw [hq]; rfl⟩)
    · exact .inr (.inr ⟨hs, hq, decodeControl_of_other hs hq⟩)

/-! ## Decoding what was encoded -/

/-- Settles O2: the word's fields are what was packed; a fixed port selects its row, and of the catch-all instructions
well-formedness says that no more specific row takes their operand. -/
theorem decodeOfEncodeIsIdentity : Obligations.DecodeOfEncodeIsIdentity := by
  intro i hi
  cases i with
  | const | conin | dskstat | dskcnt => exact decode_inWord _
  | conout v | settrk v | setsec v | setdmal v | setdmah v | setdrv v => exact decode_outWord _ v
  | dskrd | dskwr | ctlsave | ctlquit => exact decode_outWord _ _
  | dskinv v =>
    obtain ⟨hr, hw⟩ : v ≠ opRead ∧ v ≠ opWrite := by simpa [Instr.wellFormed] using hi
    exact (decode_outWord _ v).trans (decodeOperation_of_other hr hw)
  | ctlnop v =>
    obtain ⟨hs, hq⟩ : v ≠ opSave ∧ v ≠ opQuit := by simpa [Instr.wellFormed] using hi
    exact (decode_outWord _ v).trans (decodeControl_of_other hs hq)
  | inunmap p => exact (decode_inWord p).trans (decodeIn_of_unmapped (by simpa [Instr.wellFormed] using hi))
  | outunmap p v => exact (decode_outWord p v).trans (decodeOut_of_unmapped (by simpa [Instr.wellFormed] using hi))

/-! ## What is decoded is well formed -/

theorem decodeOperation_wellFormed (v : Byte) : (decodeOperation v).wellFormed = true := by
  obtain ⟨-, h⟩ | ⟨-, h⟩ | ⟨hr, hw, h⟩ := decodeOperation_cases v <;> rw [h]
  · rfl
  · rfl
  · simp [Instr.wellFormed, hr, hw]

theorem decodeControl_wellFormed (v : Byte) : (decodeControl v).wellFormed = true := by
  obtain ⟨-, h⟩ | ⟨-, h⟩ | ⟨hs, hq, h⟩ := decodeControl_cases v <;> rw [h]
  · rfl
  · rfl
  · simp [Instr.wellFormed, hs, hq]

theorem decodeIn_canonicalPort_wellFormed (h : mappedForReads lo = true) :
    (decodeIn (canonicalPort lo)).wellFormed = true := by
  obtain rfl | rfl | rfl | rfl := mappedForReads_iff.1 h <;> rfl

theorem decodeOut_canonicalPort_wellFormed (h : mappedForWrites lo = true) (v : Byte) :
    (decodeOut (canonicalPort lo) v).wellFormed = true := by
  obtain rfl | rfl | rfl | rfl | rfl | rfl | rfl | rfl := mappedForWrites_iff.1 h
  exacts [rfl, rfl, rfl, rfl, rfl, decodeOperation_wellFormed v, rfl, decodeControl_wellFormed v]

/-- Settles O3: an unmapped access is answered only where no row has the address, and the mapped rows answer well-formed
instructions. -/
theorem decodedInstructionIsWellFormed : Obligations.DecodedInstructionIsWellFormed := by
  intro w
  obtain ⟨-, hm, h⟩ | ⟨-, hm, h⟩ | ⟨-, hm, h⟩ | ⟨-, hm, h⟩ := decode_cases w <;> rw [h]
  · simp [Instr.wellFormed, hm]
  · exact decodeIn_canonicalPort_wellFormed hm
  · simp [Instr.wellFormed, hm]
  · exact decodeOut_canonicalPort_wellFormed hm _

/-! ## Encoding what was decoded -/

theorem encode_decodeOperation (v : Byte) : encode (decodeOperation v) = outWord (canonicalPort 0x14#8) v := by
  obtain ⟨rfl, h⟩ | ⟨rfl, h⟩ | ⟨-, -, h⟩ := decodeOperation_cases v <;> rw [h] <;> rfl

theorem encode_decodeControl (v : Byte) : encode (decodeControl v) = outWord (canonicalPort 0xE0#8) v := by
  obtain ⟨rfl, h⟩ | ⟨rfl, h⟩ | ⟨-, -, h⟩ := decodeControl_cases v <;> rw [h] <;> rfl

theorem encode_decodeIn_canonicalPort (h : mappedForReads lo = true) :
    encode (decodeIn (canonicalPort lo)) = inWord (canonicalPort lo) := by
  obtain rfl | rfl | rfl | rfl := mappedForReads_iff.1 h <;> rfl

theorem encode_decodeOut_canonicalPort (h : mappedForWrites lo = true) (v : Byte) :
    encode (decodeOut (canonicalPort lo) v) = outWord (canonicalPort lo) v := by
  obtain rfl | rfl | rfl | rfl | rfl | rfl | rfl | rfl := mappedForWrites_iff.1 h
  exacts [rfl, rfl, rfl, rfl, rfl, encode_decodeOperation v, rfl, encode_decodeControl v]

/-- Settles O4: an unmapped access keeps its port, and a mapped one goes back to the canonical port it was decoded at. -/
theorem encodeOfDecodeIsCanonicalWord : Obligations.EncodeOfDecodeIsCanonicalWord := by
  intro w
  obtain ⟨hd, hm, h⟩ | ⟨hd, hm, h⟩ | ⟨hd, hm, h⟩ | ⟨hd, hm, h⟩ := decode_cases w
  · simp [hd, hm, h, encode]
  · simp [hd, hm, h, encode_decodeIn_canonicalPort]
  · simp [hd, hm, h, encode]
  · simp [hd, hm, h, encode_decodeOut_canonicalPort]

/-- Decoding and encoding keep the direction and the low port byte, which are all that selects the port (R82). -/
theorem encode_decode_fields (w : TWord) :
    (encode (decode w)).isWrite = w.isWrite ∧ lo8 (encode (decode w)).port = lo8 w.port := by
  obtain ⟨hwrite, hread⟩ := encodeOfDecodeIsCanonicalWord w
  cases hd : w.isWrite with
  | false => rw [hread hd]; refine ⟨inWord_isWrite _, ?_⟩; rw [inWord_port]; split <;> simp
  | true => rw [hwrite hd]; refine ⟨outWord_isWrite .., ?_⟩; rw [outWord_port]; split <;> simp

/-! ## The most specific row of the table -/

/-- The names of the rows R83 selects for a word with these fields. -/
def selectedNames (d : Bool) (lo v : Byte) : List String :=
  (mostSpecific ((opcodeTable.zip (rowAnswers d lo v)).filterMap fun x => if x.2 then some x.1 else none)).map
    TableRow.mnemonic

theorem selectedRows_names (w : TWord) :
    (selectedRows w).map TableRow.mnemonic = selectedNames w.isWrite (lo8 w.port) w.data := by
  rw [selectedRows, matchingRows_eq, selectedNames]

theorem selectedNames_unmapped_read (h : mappedForReads lo = false) : selectedNames false lo v = ["INUNMAP"] := by
  have : rowAnswers false lo v = List.replicate 16 false ++ [true, false] := by
    simp [rowAnswers, mappedForReads_eq_false.1 h]
  rw [selectedNames, this]; rfl

theorem selectedNames_unmapped_write (h : mappedForWrites lo = false) : selectedNames true lo v = ["OUTUNMAP"] := by
  have : rowAnswers true lo v = List.replicate 16 false ++ [false, true] := by
    simp [rowAnswers, mappedForWrites_eq_false.1 h]
  rw [selectedNames, this]; rfl

theorem selectedNames_operation (v : Byte) : selectedNames true 0x14#8 v = [(decodeOperation v).mnemonic] := by
  obtain ⟨rfl, h⟩ | ⟨rfl, h⟩ | ⟨hr, hw, h⟩ := decodeOperation_cases v <;> rw [h]
  · rfl
  · rfl
  · have : rowAnswers true 0x14#8 v = rowAnswers true 0x14#8 0x00#8 := by
      simp only [opRead, opWrite] at hr hw
      simp [rowAnswers, hr, hw]
    rw [selectedNames, this]; rfl

theorem selectedNames_control (v : Byte) : selectedNames true 0xE0#8 v = [(decodeControl v).mnemonic] := by
  obtain ⟨rfl, h⟩ | ⟨rfl, h⟩ | ⟨hs, hq, h⟩ := decodeControl_cases v <;> rw [h]
  · rfl
  · rfl
  · have : rowAnswers true 0xE0#8 v = rowAnswers true 0xE0#8 0x00#8 := by
      simp only [opSave, opQuit] at hs hq
      simp [rowAnswers, hs, hq]
    rw [selectedNames, this]; rfl

theorem selectedNames_mapped_read (h : mappedForReads lo = true) :
    selectedNames false lo v = [(decodeIn (canonicalPort lo)).mnemonic] := by
  obtain rfl | rfl | rfl | rfl := mappedForReads_iff.1 h <;> rfl

theorem selectedNames_mapped_write (h : mappedForWrites lo = true) :
    selectedNames true lo v = [(decodeOut (canonicalPort lo) v).mnemonic] := by
  obtain rfl | rfl | rfl | rfl | rfl | rfl | rfl | rfl := mappedForWrites_iff.1 h
  exacts [rfl, rfl, rfl, rfl, rfl, selectedNames_operation v, rfl, selectedNames_control v]

/-- Settles O5: the table's masks see the direction, the low port byte and the data byte only, and for each of them the row with the
most mask bits is the decoder's. -/
theorem mostSpecificTableRowIsDecoded : Obligations.MostSpecificTableRowIsDecoded := by
  intro w
  rw [selectedRows_names]
  obtain ⟨hd, hm, h⟩ | ⟨hd, hm, h⟩ | ⟨hd, hm, h⟩ | ⟨hd, hm, h⟩ := decode_cases w <;> rw [hd, h]
  · exact selectedNames_unmapped_read hm
  · exact selectedNames_mapped_read hm
  · exact selectedNames_unmapped_write hm
  · exact selectedNames_mapped_write hm

/-! ## The bits the decoder ignores -/

/-- The low port byte of the table's row of that name (R85). -/
def rowPort (name : String) : Option Byte := (opcodeTable.find? (·.mnemonic == name)).map fun r => lo8 r.value.port

/-- An instruction's name gives its low port byte, unless it is an unmapped access. -/
theorem rowPort_mnemonic (i : Instr) : rowPort i.mnemonic = some (lo8 (encode i).port) ∨
    i.mnemonic = if (encode i).isWrite then "OUTUNMAP" else "INUNMAP" := by
  cases i with
  | inunmap p => right; rw [encode, inWord_isWrite]; rfl
  | outunmap p v => right; rw [encode, outWord_isWrite]; rfl
  | const | conin | dskstat | dskcnt => left; rw [encode, inWord_port, lo8_canonicalPort]; rfl
  | conout | settrk | setsec | setdmal | setdmah | dskrd | dskwr | dskinv | setdrv | ctlsave | ctlquit | ctlnop =>
    left; rw [encode, outWord_port, lo8_canonicalPort]; rfl

end Sys2Proof

namespace Sys2Proof.Machine

/-! ## The machine and the ignored bits -/

/-- Words that differ only in ignored bits decode to the same instruction or to two unmapped accesses of one direction, which the
machine does not tell apart (R80, R82, R111, R112). -/
theorem decode_ignores (w w' : TWord) (s : State) (hd : w.isWrite = w'.isWrite) (hp : lo8 w.port = lo8 w'.port)
    (hv : w.isWrite = true → w.data = w'.data) :
    (decode w).mnemonic = (decode w').mnemonic ∧ exec (decode w) s = exec (decode w') s := by
  obtain ⟨h, hm, e⟩ | ⟨h, hm, e⟩ | ⟨h, hm, e⟩ | ⟨h, hm, e⟩ := decode_cases w
  · rw [e, decode_of_unmapped_read w' (hd ▸ h) (hp ▸ hm)]; exact ⟨rfl, rfl⟩
  · rw [e, decode_of_mapped_read w' (hd ▸ h) (hp ▸ hm), hp]; exact ⟨rfl, rfl⟩
  · rw [e, decode_of_unmapped_write w' (hd ▸ h) (hp ▸ hm)]; exact ⟨rfl, rfl⟩
  · rw [e, decode_of_mapped_write w' (hd ▸ h) (hp ▸ hm), hp, hv h]; exact ⟨rfl, rfl⟩

/-- Two words of one direction with different low port bytes and one name are unmapped accesses: any other name fixes the byte. -/
theorem decode_distinguishes_ports (w w' : TWord) (hd : w.isWrite = w'.isWrite) (hp : lo8 w.port ≠ lo8 w'.port)
    (hn : (decode w).mnemonic = (decode w').mnemonic) :
    (decode w).mnemonic = if w.isWrite then "OUTUNMAP" else "INUNMAP" := by
  obtain ⟨hw, hport⟩ := encode_decode_fields w
  obtain ⟨hw', hport'⟩ := encode_decode_fields w'
  obtain hrow | hun := rowPort_mnemonic (decode w)
  · obtain hrow' | hun' := rowPort_mnemonic (decode w')
    · rw [hn, hrow', hport, hport', Option.some.injEq] at hrow
      exact absurd hrow.symm hp
    · rw [hn, hun', hw', hd]
  · rw [hun, hw]

/-- Settles O6: the ignored bits do not reach the machine, and every name but an unmapped access's fixes the low port byte. -/
theorem ignoredBitsChangeNothing : Obligations.IgnoredBitsChangeNothing :=
  ⟨decode_ignores, decode_distinguishes_ports⟩

/-! ## Wrong directions -/

/-- Settles O40: no address is mapped in both directions, so the access is decoded as an unmapped one. -/
theorem wrongDirectionIsUnmapped : Obligations.WrongDirectionIsUnmapped := by
  intro p v s
  refine ⟨fun h => ?_, fun h => ?_⟩
  · rw [decode_inWord, decodeIn_of_unmapped (not_mappedForReads_of_mappedForWrites (List.contains_iff_mem.2 h))]; rfl
  · rw [decode_outWord, decodeOut_of_unmapped (not_mappedForWrites_of_mappedForReads (List.contains_iff_mem.2 h))]; rfl

/-! ## Sample words, and every step -/

/-- Settles O1, by running the decoder on the ten words. -/
theorem sampleWordsDecode : Obligations.SampleWordsDecode := by
  unfold Obligations.SampleWordsDecode
  decide

/-- Every arm of `exec` answers a next state (R87). -/
theorem exec_answers_next (i : Instr) (s : State) : ∃ t, exec i s = .next t := by
  cases i <;> exact ⟨_, rfl⟩

/-- Settles O9: a step is nothing, a landing, a CPU store or an instruction, and each answers a next state. -/
theorem everyStepAnswersNextState : Obligations.EveryStepAnswersNextState := by
  intro s
  cases hr : s.stopped with
  | true => exact ⟨_, step_of_stopped hr⟩
  | false =>
    match hp : s.pending with
    | [] => exact ⟨_, step_of_idle hr hp⟩
    | .store a b :: _ => exact ⟨_, step_of_store hr hp⟩
    | .bus w :: _ => rw [step_of_bus hr hp]; exact exec_answers_next _ _

end Sys2Proof.Machine

/-! # Unmapped accesses (spec/40 R111, R112) -/

namespace Sys2Proof.Machine

theorem exec_inunmap (p : Port) (s : State) : exec (.inunmap p) s = .next (s.completeRead unmappedSentinel) := rfl

theorem exec_outunmap (p : Port) (v : Byte) (s : State) : exec (.outunmap p v) s = .next s.completeWrite := rfl

/-- Settles O38: an address that is none of the four readable ones is unmapped for reads, and the transaction only completes. -/
theorem unmappedReadReturnsSentinel : Obligations.UnmappedReadReturnsSentinel := by
  refine ⟨fun w hd h00 h01 h15 h16 => ?_, exec_inunmap⟩
  exact decode_of_unmapped_read w hd (mappedForReads_eq_false.2 ⟨h00, h01, h15, h16⟩)

/-- Settles O39: an address that is none of the eight writable ones is unmapped for writes, and the transaction only completes. -/
theorem unmappedWriteIsIgnored : Obligations.UnmappedWriteIsIgnored := by
  refine ⟨fun w hd h02 h10 h11 h12 h13 h14 h17 hE0 => ?_, exec_outunmap⟩
  exact decode_of_unmapped_write w hd (mappedForWrites_eq_false.2 ⟨h02, h10, h11, h12, h13, h14, h17, hE0⟩)

end Sys2Proof.Machine

/-! # The console ports (spec/41_console_ports.md R120 to R122; spec/60_exceptions.md R187) -/

namespace Sys2Proof

/-- The 9-bit row of a mapped port, for reads: the high port byte and the data bits are ignored (R80, R82, R83). -/
theorem decode_read_port_row {w : TWord} {lo : Byte} (hm : mappedForReads lo = true)
    (h : w &&& 0x100FF00#25 = BitVec.ofBool false ++ 0#8 ++ lo ++ 0#8) : decode w = decodeIn (canonicalPort lo) := by
  obtain ⟨hd, rfl⟩ := (mask_port_row w lo false).1 h
  exact decode_of_mapped_read w hd hm

/-- The 9-bit row of a mapped port, for writes: the high port byte is ignored, the data byte is the operand (R82, R83). -/
theorem decode_write_port_row {w : TWord} {lo : Byte} (hm : mappedForWrites lo = true)
    (h : w &&& 0x100FF00#25 = BitVec.ofBool true ++ 0#8 ++ lo ++ 0#8) :
    decode w = decodeOut (canonicalPort lo) w.data := by
  obtain ⟨hd, rfl⟩ := (mask_port_row w lo true).1 h
  exact decode_of_mapped_write w hd hm

end Sys2Proof

namespace Sys2Proof.Machine

theorem exec_const (s : State) :
    exec .const s = .next ((s.emit (.conStatus s.consoleFull)).completeRead (consoleStatusCode s.consoleFull)) := rfl

theorem exec_conin (s : State) : exec .conin s = .next s.getChar := rfl

theorem exec_conout (v : Byte) (s : State) : exec (.conout v) s = .next (s.emit (.conPut v)).completeWrite := rfl

/-- The status code of the console, by its buffer (R120, D16). -/
theorem consoleStatusCode_consoleFull (s : State) :
    consoleStatusCode s.consoleFull = if s.console.isEmpty then 0x00#8 else 0x01#8 := by
  cases h : s.console.isEmpty <;> simp [consoleStatusCode, State.consoleFull, h]

theorem State.nextAnswers_of_listed {s : State} {a : Answers} {l : List Answers} (h : s.later = a :: l) :
    s.nextAnswers = a := by
  simp [State.nextAnswers, h]

/-- Settles O14: the console lands with exactly the characters of this step's answers, and `Con.Get()` holds on an empty
one and gives the first character of another. -/
theorem heldReadCompletesOnArrival : Obligations.HeldReadCompletesOnArrival := by
  intro s w rest a l hr hp hd hc hl
  have hnow : s.land.now = a := State.nextAnswers_of_listed hl
  have hcon : s.land.console = a.chars := by
    rw [State.land_console, hc, State.nextAnswers_of_listed hl, List.nil_append]
  have hstep : step s = .next s.land.getChar := by rw [step_of_bus hr hp, hd, exec_conin]
  refine ⟨fun hch he => ?_, fun b cs hch => ?_⟩
  · have hempty : s.land.console = [] := hcon.trans hch
    rw [State.getChar_of_held hempty (by rw [hnow, he])] at hstep
    exact ⟨s.land, hstep, rfl, hempty, rfl, rfl, rfl, rfl, rfl, rfl⟩
  · rw [State.getChar_of_buffered (hcon.trans hch)] at hstep
    exact ⟨_, hstep, congrArg List.tail hp, rfl, rfl, rfl⟩

/-- Settles O11: the row is decoded by its port, and the status is an event and a result, no more. -/
theorem consoleStatusIsReturned : Obligations.ConsoleStatusIsReturned := by
  refine ⟨fun _ h => decode_read_port_row (lo := 0x00#8) rfl h, fun s => ?_⟩
  rw [exec_const, consoleStatusCode_consoleFull]
  rfl

/-- Settles O12: `Con.Get()` on a buffer with a head. -/
theorem consoleCharacterIsConsumed : Obligations.ConsoleCharacterIsConsumed := by
  refine ⟨fun _ h => decode_read_port_row (lo := 0x01#8) rfl h, fun s b rest hc => ?_⟩
  rw [exec_conin, State.getChar_of_buffered hc]
  rfl

/-- Settles O13: `Con.Get()` on an empty buffer, with and without an answer. -/
theorem emptyConsoleReturnsOrHolds : Obligations.EmptyConsoleReturnsOrHolds := by
  refine fun s hc => ⟨fun b ha => ?_, fun ha => ?_⟩
  · rw [exec_conin, State.getChar_of_answer hc ha]; rfl
  · rw [exec_conin, State.getChar_of_held hc ha]

/-- Settles O15: the row is decoded by its port and data byte, and the byte is an event, no more. -/
theorem conoutForwardsByte : Obligations.ConoutForwardsByte :=
  ⟨fun _ h => decode_write_port_row (lo := 0x02#8) rfl h, exec_conout⟩

end Sys2Proof.Machine

/-! # The disk register writes (spec/42_disk_register_writes.md R130 to R134) -/

namespace Sys2Proof.Machine

theorem exec_settrk (v : Byte) (s : State) : exec (.settrk v) s = .next (s.setTrack v).completeWrite := rfl

theorem exec_setsec (v : Byte) (s : State) : exec (.setsec v) s = .next (s.setSector v).completeWrite := rfl

theorem exec_setdmal (v : Byte) (s : State) : exec (.setdmal v) s = .next (s.setDmalo v).completeWrite := rfl

theorem exec_setdmah (v : Byte) (s : State) : exec (.setdmah v) s = .next (s.setDmahi v).completeWrite := rfl

theorem exec_setdrv (v : Byte) (s : State) : exec (.setdrv v) s = .next (s.setDrvsel v).completeWrite := rfl

/-- Settles O16: the row is decoded by its port and data byte, and the write sets TRACK and completes, with no check of the
track's range. -/
theorem settrkWritesTrack : Obligations.SettrkWritesTrack :=
  ⟨fun _ h => decode_write_port_row (lo := 0x10#8) rfl h, exec_settrk⟩

/-- Settles O17: the row is decoded by its port and data byte, and the write sets SECTOR and completes, with no check against
SECTORS_PER_TRACK. -/
theorem setsecWritesSector : Obligations.SetsecWritesSector :=
  ⟨fun _ h => decode_write_port_row (lo := 0x11#8) rfl h, exec_setsec⟩

/-- Settles O18: the row is decoded by its port and data byte, and the write sets DMALO alone and completes. -/
theorem setdmalWritesLowByte : Obligations.SetdmalWritesLowByte :=
  ⟨fun _ h => decode_write_port_row (lo := 0x12#8) rfl h, exec_setdmal⟩

/-- Settles O19: the row is decoded by its port and data byte, and the write sets DMAHI alone and completes. -/
theorem setdmahWritesHighByte : Obligations.SetdmahWritesHighByte :=
  ⟨fun _ h => decode_write_port_row (lo := 0x13#8) rfl h, exec_setdmah⟩

/-- Settles O20: the row is decoded by its port and data byte, and the write sets DRVSEL to all eight bits and completes. -/
theorem setdrvStoresAnyByte : Obligations.SetdrvStoresAnyByte :=
  ⟨fun _ h => decode_write_port_row (lo := 0x17#8) rfl h, exec_setdrv⟩

end Sys2Proof.Machine

/-! # The operation write (spec/43_disk_operation.md R140 to R149) -/

namespace Sys2Proof

/-- The catch-all row of the operation port: a data byte that is neither READ nor WRITE is the operand (R83, R147). -/
theorem decode_unknown_operation {w : TWord} (h : w &&& 0x100FF00#25 = 0x1001400#25) (hr : w &&& 0x100FFFF#25 ≠ 0x1001401#25)
    (hw : w &&& 0x100FFFF#25 ≠ 0x1001402#25) : decode w = .dskinv w.data := by
  obtain ⟨hd, hp⟩ := (mask_port_row w 0x14#8 true).1 h
  rw [decode_write_port_row (lo := 0x14#8) rfl h]
  exact decodeOperation_of_other (fun hv => hr ((mask_command_row w opRead 0x14#8 true).2 ⟨hd, hp, hv⟩))
    fun hv => hw ((mask_command_row w opWrite 0x14#8 true).2 ⟨hd, hp, hv⟩)

/-- A well-formed operation write is the row of its opcode (R145 to R147). -/
theorem eq_decodeOperation_of_wellFormed {i : Instr} (hw : i.wellFormed = true) (h : i.isOperation = true) :
    ∃ v, i = decodeOperation v := by
  cases i with
  | dskrd => exact ⟨opRead, rfl⟩
  | dskwr => exact ⟨opWrite, rfl⟩
  | dskinv v =>
    obtain ⟨hr, hv⟩ : v ≠ opRead ∧ v ≠ opWrite := by simpa [Instr.wellFormed] using hw
    exact ⟨v, (decodeOperation_of_other hr hv).symm⟩
  | const | conin | conout | settrk | setsec | setdmal | setdmah | dskstat | dskcnt | setdrv | ctlsave | ctlquit
  | ctlnop | inunmap | outunmap => cases h

end Sys2Proof

namespace Sys2Proof.Machine

/-- Whatever its opcode, an operation write is the one operation, and then completes (R140). -/
theorem exec_decodeOperation (v : Byte) (s : State) :
    exec (decodeOperation v) s = .next (s.diskOperation v).completeWrite := by
  obtain ⟨rfl, e⟩ | ⟨rfl, e⟩ | ⟨-, -, e⟩ := decodeOperation_cases v <;> rw [e] <;> rfl

/-! ## The two early stops -/

/-- A drive select below the drive count selects a store (R141). -/
theorem Regs.exists_selectedDrive {r : Regs} (h : r.drvsel.toNat < r.drvcnt.value) : ∃ d, r.selectedDrive = some d :=
  Option.ne_none_iff_exists'.1 fun hn => Nat.not_le.2 h (r.selectedDrive_eq_none.1 hn)

/-- A window is refused by the memory collaborator's answer or because it passes the end of memory (R55). -/
theorem State.granted_eq_false {s : State} {a : Addr} {n : Nat} :
    s.granted a n = false ↔ s.now.grant = false ∨ 65536 < a.toNat + n := by
  rw [State.granted, Bool.and_eq_false_iff, decide_eq_false_iff_not, Nat.not_le]

/-- Settles O22: step 2 finds no store, so the failure of step 1 stands. -/
theorem operationOnInvalidDriveFails : Obligations.OperationOnInvalidDriveFails := by
  intro i s ho hd
  obtain ⟨v, hv⟩ := exec_of_isOperation ho
  rw [hv, s.diskOperation_invalid v (s.regs.selectedDrive_eq_none.2 hd)]
  rfl

/-- Settles O23: step 3 is refused, so the failure of step 1 stands. -/
theorem operationWithRefusedWindowFails : Obligations.OperationWithRefusedWindowFails := by
  intro i s ho hd hg
  obtain ⟨v, hv⟩ := exec_of_isOperation ho
  obtain ⟨d, hsel⟩ := Regs.exists_selectedDrive hd
  rw [hv, s.diskOperation_refused v hsel (State.granted_eq_false.2 hg)]
  rfl

/-! ## An unknown opcode -/

theorem exec_dskinv (v : Byte) (s : State) : exec (.dskinv v) s = .next (s.diskOperation v).completeWrite := rfl

/-- On a valid drive an unknown opcode leaves the one window request and the failure of step 1, granted or not (R147). -/
theorem State.diskOperation_other {s : State} {v : Byte} (hr : v ≠ opRead) (hw : v ≠ opWrite)
    (hd : s.regs.drvsel.toNat < s.regs.drvcnt.value) : s.diskOperation v =
      s.latchFailure.emit (.dmaReq s.regs.dma s.geom.sectorSize (s.granted s.regs.dma s.geom.sectorSize)) := by
  obtain ⟨d, hsel⟩ := Regs.exists_selectedDrive hd
  cases hg : s.granted s.regs.dma s.geom.sectorSize with
  | false => exact s.diskOperation_refused v hsel hg
  | true => rw [s.diskOperation_granted v hsel hg, State.dispatchOpcode_other _ _ hr hw]

/-- Settles O24: the catch-all row is decoded; an invalid drive stops the operation (O22), a valid one brings it to the window
request and no further. -/
theorem unknownOpcodeLatchesFailure : Obligations.UnknownOpcodeLatchesFailure := by
  refine ⟨fun _ => decode_unknown_operation, fun v s hr hw =>
    ⟨operationOnInvalidDriveFails (.dskinv v) s rfl, fun hd => ?_⟩⟩
  rw [exec_dskinv, State.diskOperation_other hr hw hd]
  rfl

/-! ## The calls on every path -/

/-- The paths of R148, each with its opcode, its calls in step order, and the latch it leaves. -/
inductive State.OperationPath (s : State) : Byte → List Event → Bool → Prop
  | invalid (v : Byte) (hd : s.regs.drvcnt.value ≤ s.regs.drvsel.toNat) : s.OperationPath v [] false
  | refused (v : Byte) (hd : s.regs.drvsel.toNat < s.regs.drvcnt.value)
      (hg : s.granted s.regs.dma s.geom.sectorSize = false) :
      s.OperationPath v [.dmaReq s.regs.dma s.geom.sectorSize false] false
  | read (d : Drive) (ok : Bool) (hd : s.regs.drvsel.toNat < s.regs.drvcnt.value) (hnum : d.number = s.regs.drvsel.toNat)
      (hg : s.granted s.regs.dma s.geom.sectorSize = true) :
      s.OperationPath opRead [.dmaReq s.regs.dma s.geom.sectorSize true, .stoRead d s.sectorIndex ok] ok
  | write (d : Drive) (ok : Bool) (hd : s.regs.drvsel.toNat < s.regs.drvcnt.value) (hnum : d.number = s.regs.drvsel.toNat)
      (hg : s.granted s.regs.dma s.geom.sectorSize = true) :
      s.OperationPath opWrite [.dmaReq s.regs.dma s.geom.sectorSize true,
        .stoWrite d s.sectorIndex (memRead s.mem s.regs.dma.toNat s.geom.sectorSize) ok] ok
  | other (v : Byte) (d : Drive) (hd : s.regs.drvsel.toNat < s.regs.drvcnt.value) (hnum : d.number = s.regs.drvsel.toNat)
      (hg : s.granted s.regs.dma s.geom.sectorSize = true) (hr : v ≠ opRead) (hw : v ≠ opWrite) :
      s.OperationPath v [.dmaReq s.regs.dma s.geom.sectorSize true] false

/-- Every operation write takes one of the paths. -/
theorem State.diskOperation_path (s : State) (v : Byte) : ∃ es, (s.diskOperation v).events = s.events ++ es ∧
    s.OperationPath v es (s.diskOperation v).regs.lastok := by
  obtain ⟨hd, e⟩ | ⟨d, hd, hg, e⟩ | ⟨d, hd, hg, e⟩ := s.diskOperation_cases v <;> rw [e]
  · exact ⟨[], by simp, .invalid v (s.regs.selectedDrive_eq_none.1 hd)⟩
  · exact ⟨_, rfl, .refused v ((s.regs.selectedDrive_eq_some d).1 hd).1 hg⟩
  · obtain ⟨hd, hnum⟩ := (s.regs.selectedDrive_eq_some d).1 hd
    obtain ⟨rfl, e'⟩ | ⟨rfl, e'⟩ | ⟨hr, hw, e'⟩ := State.dispatchOpcode_cases _ v d s.regs.dma s.sectorIndex <;> rw [e']
    · exact ⟨_, (State.readSector_events ..).trans (List.append_assoc ..), .read d _ hd hnum.symm hg⟩
    · refine ⟨_, (State.writeSector_events ..).trans (List.append_assoc ..), ?_⟩
      rw [State.writeSector_regs]
      exact .write d _ hd hnum.symm hg
    · exact ⟨_, rfl, .other v d hd hnum.symm hg hr hw⟩

/-- Settles O28: the paths, with each opcode read as its instruction. -/
theorem operationCallsFollowStepOrder : Obligations.OperationCallsFollowStepOrder := by
  intro i s ho hwf
  obtain ⟨v, rfl⟩ := eq_decodeOperation_of_wellFormed hwf ho
  obtain ⟨es, he, hpath⟩ := s.diskOperation_path v
  refine ⟨_, es, exec_decodeOperation v s, he, ?_⟩
  rw [State.completeWrite_regs]
  generalize (s.diskOperation v).regs.lastok = latch at hpath ⊢
  cases hpath with
  | invalid _ hd => exact .inl ⟨hd, rfl, rfl⟩
  | refused _ hd hg => exact .inr (.inl ⟨hd, hg, rfl, rfl⟩)
  | read d _ hd hnum hg => exact .inr (.inr ⟨hd, hg, d, latch, hnum, .inl ⟨rfl, rfl, rfl⟩⟩)
  | write d _ hd hnum hg => exact .inr (.inr ⟨hd, hg, d, latch, hnum, .inr (.inl ⟨rfl, rfl, rfl⟩)⟩)
  | other _ d hd hnum hg hr hw =>
    rw [decodeOperation_of_other hr hw]
    exact .inr (.inr ⟨hd, hg, d, false, hnum, .inr (.inr ⟨nofun, nofun, rfl, rfl⟩)⟩)

/-! ## What an operation write leaves alone -/

/-- Every call of an operation write asks for the whole window or is one on the selected store, with a whole sector (R149). -/
theorem State.OperationPath.call_cases {s : State} {v : Byte} {es : List Event} {latch : Bool}
    (h : s.OperationPath v es latch) {e : Event} (he : e ∈ es) :
    (∃ g, e = .dmaReq s.regs.dma s.geom.sectorSize g) ∨
    (∃ d idx ok, d.number = s.regs.drvsel.toNat ∧ e = .stoRead d idx ok) ∨
    (∃ d idx data ok, d.number = s.regs.drvsel.toNat ∧ data.length = s.geom.sectorSize ∧ e = .stoWrite d idx data ok) := by
  cases h with
  | invalid => cases he
  | refused | other => exact .inl ⟨_, List.mem_singleton.1 he⟩
  | read d _ _ hnum =>
    obtain rfl | rfl : _ ∨ _ := by simpa using he
    · exact .inl ⟨_, rfl⟩
    · exact .inr (.inl ⟨d, _, latch, hnum, rfl⟩)
  | write d _ _ hnum =>
    obtain rfl | rfl : _ ∨ _ := by simpa using he
    · exact .inl ⟨_, rfl⟩
    · exact .inr (.inr ⟨d, _, _, latch, hnum, memRead_length .., rfl⟩)

/-- Step 5 changes no store but the selected one, nor the console, the shutdown request and the stop. -/
theorem State.dispatchOpcode_frame (s : State) (v : Byte) (c : Drive) (a : Addr) (idx : Nat) :
    (s.dispatchOpcode v c a idx).console = s.console ∧
    (s.dispatchOpcode v c a idx).shutdownRequested = s.shutdownRequested ∧
    (s.dispatchOpcode v c a idx).stopped = s.stopped ∧
    ∀ d, d ≠ c → (s.dispatchOpcode v c a idx).store d = s.store d := by
  obtain ⟨-, e⟩ | ⟨-, e⟩ | ⟨-, -, e⟩ := s.dispatchOpcode_cases v c a idx <;> rw [e]
  · exact ⟨rfl, rfl, rfl, fun d _ => s.readSector_store ..⟩
  · refine ⟨?_, ?_, ?_, fun d hd => by rw [State.writeSector_store, if_neg hd]⟩ <;> simp [State.writeSector]
  · exact ⟨rfl, rfl, rfl, fun _ _ => rfl⟩

/-- An operation write changes no store but the selected one, nor the console, the shutdown request and the stop. -/
theorem State.diskOperation_frame (s : State) (v : Byte) :
    (s.diskOperation v).console = s.console ∧ (s.diskOperation v).shutdownRequested = s.shutdownRequested ∧
    (s.diskOperation v).stopped = s.stopped ∧
    ∀ d : Drive, d.number ≠ s.regs.drvsel.toNat → (s.diskOperation v).store d = s.store d := by
  obtain ⟨-, e⟩ | ⟨c, -, -, e⟩ | ⟨c, hc, -, e⟩ := s.diskOperation_cases v <;> rw [e]
  · exact ⟨rfl, rfl, rfl, fun d _ => by simp⟩
  · exact ⟨rfl, rfl, rfl, fun d _ => by simp⟩
  · obtain ⟨hcon, hshut, hstop, hstore⟩ := State.dispatchOpcode_frame
      (s.latchFailure.emit (.dmaReq s.regs.dma s.geom.sectorSize true)) v c s.regs.dma s.sectorIndex
    refine ⟨hcon, hshut, hstop, fun d hd => (hstore d fun hdc => hd ?_).trans (by simp)⟩
    rw [hdc, ((s.regs.selectedDrive_eq_some c).1 hc).2]

/-- Settles O29: the frame of the one operation, its calls, and the outcome it latches. -/
theorem operationWriteLeavesTheRest : Obligations.OperationWriteLeavesTheRest := by
  intro i s ho
  obtain ⟨v, hv⟩ := exec_of_isOperation ho
  obtain ⟨es, he, hok⟩ := s.diskOperation_outcome v
  obtain ⟨es', he', hpath⟩ := s.diskOperation_path v
  obtain rfl : es = es' := List.append_cancel_left (he.symm.trans he')
  obtain ⟨ok, hregs⟩ := s.diskOperation_regs v
  obtain ⟨hgeom, -⟩ := s.diskOperation_geom_rejects v
  obtain ⟨hcon, hshut, hstop, hstore⟩ := s.diskOperation_frame v
  refine ⟨_, es, hv s, he, by simp [hregs], hgeom, hcon, hshut, hstop, by simp, fun d hd => ?_, fun _ => hpath.call_cases,
    fun x hx => ?_, hok⟩
  · rw [State.completeWrite_store, hstore d hd]
  · by_contra hne
    obtain ⟨-, -, -, hlo, hhi⟩ := State.diskOperation_mem_change hne
    omega

end Sys2Proof.Machine

/-! # The disk reads (spec/44_disk_reads.md R160 and R161) -/

namespace Sys2Proof.Machine

theorem exec_dskstat (s : State) : exec .dskstat s = .next (s.completeRead (diskStatusCode s.regs.lastok)) := rfl

theorem exec_dskcnt (s : State) : exec .dskcnt s = .next (s.completeRead (BitVec.ofNat 8 s.regs.drvcnt.value)) := rfl

/-- The count is read as it stood at the start of the run (R27, R161). -/
theorem Reaches.exec_dskcnt {s t : State} (h : Reaches s t) :
    exec .dskcnt t = .next (t.completeRead (BitVec.ofNat 8 s.regs.drvcnt.value)) := by
  rw [Machine.exec_dskcnt, h.drvcnt]

/-- The count fits into the byte that is read. -/
theorem DriveCount.toNat_ofNat_value (c : DriveCount) : (BitVec.ofNat 8 c.value).toNat = c.value := by
  obtain h | h := c.value_eq <;> rw [h] <;> rfl

theorem DriveCount.ofNat_value_cases (c : DriveCount) :
    BitVec.ofNat 8 c.value = 0x01#8 ∨ BitVec.ofNat 8 c.value = 0x02#8 :=
  c.value_eq.imp (congrArg _) (congrArg _)

/-- The byte of the count that a reset samples (R200). -/
theorem State.resetWith_drvcnt_byte (r : ResetInputs) :
    BitVec.ofNat 8 (State.resetWith r).regs.drvcnt.value = if r.available then 0x02#8 else 0x01#8 := by
  rw [driveCountNeverChanges.1 r, apply_ite (BitVec.ofNat 8)]

/-- Settles O30: the row is decoded by its port, and the read completes with the latch's code, no more. -/
theorem dskstatEncodesLatch : Obligations.DskstatEncodesLatch :=
  ⟨fun _ h => decode_read_port_row (lo := 0x15#8) rfl h, exec_dskstat⟩

/-- Settles O31: the row is decoded by its port, and no run changes the count that is read; after a reset it is the sampled
one, since the program and the answers of the run are no part of it. -/
theorem dskcntReturnsDriveCount : Obligations.DskcntReturnsDriveCount := by
  refine ⟨fun _ h => decode_read_port_row (lo := 0x16#8) rfl h, fun s => ?_, fun r program answers t h => ?_⟩
  · exact ⟨_, s.regs.drvcnt.toNat_ofNat_value, s.regs.drvcnt.ofNat_value_cases, fun _ => Reaches.exec_dskcnt⟩
  · rw [h.exec_dskcnt, State.resetWith_drvcnt_byte]
    rfl

end Sys2Proof.Machine

/-! # The control port (spec/45_control_port.md R170 to R173) -/

namespace Sys2Proof

variable {w : TWord}

/-- A 17-bit row of the control port leaves only the opcode to look at (R83, R85). -/
theorem decode_control_row {v : Byte} (h : w &&& 0x100FFFF#25 = BitVec.ofBool true ++ 0#8 ++ 0xE0#8 ++ v) :
    decode w = decodeControl v := by
  obtain ⟨hd, hp, rfl⟩ := (mask_command_row w v 0xE0#8 true).1 h
  exact decode_write_port_row (lo := 0xE0#8) rfl ((mask_port_row w 0xE0#8 true).2 ⟨hd, hp⟩)

/-- The catch-all row of the control port: a data byte that is neither S nor Q is the operand (R83, R173). -/
theorem decode_unknown_control (h : w &&& 0x100FF00#25 = 0x100E000#25) (hs : w &&& 0x100FFFF#25 ≠ 0x100E053#25)
    (hq : w &&& 0x100FFFF#25 ≠ 0x100E051#25) : decode w = .ctlnop w.data := by
  obtain ⟨hd, hp⟩ := (mask_port_row w 0xE0#8 true).1 h
  rw [decode_write_port_row (lo := 0xE0#8) rfl h]
  exact decodeControl_of_other (fun hv => hs ((mask_command_row w opSave 0xE0#8 true).2 ⟨hd, hp, hv⟩))
    fun hv => hq ((mask_command_row w opQuit 0xE0#8 true).2 ⟨hd, hp, hv⟩)

end Sys2Proof

namespace Sys2Proof.Machine

theorem exec_ctlsave (s : State) : exec .ctlsave s = .next s.saveAll := rfl

theorem exec_ctlquit (s : State) : exec .ctlquit s = .next s.requestShutdown.completeWrite := rfl

theorem exec_ctlnop (v : Byte) (s : State) : exec (.ctlnop v) s = .next s.completeWrite := rfl

/-! ## Calls of the control port -/

/-- A call that only the control port makes (R171, R172). -/
def Event.isControl : Event → Bool
  | .stoAvail _ _ | .stoSave _ | .shutdown => true
  | .conStatus _ | .conGet _ | .conPut _ | .dmaReq _ _ _ | .stoRead _ _ _ | .stoWrite _ _ _ _ => false

theorem Event.count_of_isControl {e : Event} (he : e.isControl = true) {es : List Event}
    (h : ∀ e' ∈ es, e'.isControl = false) : es.count e = 0 :=
  List.count_eq_zero.2 fun hm => by simp [h e hm] at he

/-- From `s` to `t` calls are added, none of them one of the control port, and the shutdown request stands as before. -/
def State.NoControlCalls (s t : State) : Prop :=
  ∃ es, t.events = s.events ++ es ∧ (∀ e ∈ es, e.isControl = false) ∧ t.shutdownRequested = s.shutdownRequested

theorem State.NoControlCalls.of_same_events {s t : State} (he : t.events = s.events)
    (hr : t.shutdownRequested = s.shutdownRequested) : s.NoControlCalls t :=
  ⟨[], by simp [he], nofun, hr⟩

theorem State.NoControlCalls.of_one_call {s t : State} {e : Event} (he : t.events = s.events ++ [e])
    (hc : e.isControl = false) (hr : t.shutdownRequested = s.shutdownRequested) : s.NoControlCalls t :=
  ⟨[e], he, by simpa using hc, hr⟩

theorem State.getChar_noControlCalls (s : State) : s.NoControlCalls s.getChar := by
  obtain ⟨b, rest, -, e⟩ | ⟨b, -, -, e⟩ | ⟨-, -, e⟩ := s.getChar_cases <;> rw [e]
  · exact .of_one_call rfl rfl rfl
  · exact .of_one_call rfl rfl rfl
  · exact .of_same_events rfl rfl

/-- An operation write asks for its window and calls its store, no more (R149). -/
theorem State.diskOperation_noControlCalls (s : State) (v : Byte) :
    s.NoControlCalls (s.diskOperation v).completeWrite := by
  obtain ⟨es, he, hpath⟩ := s.diskOperation_path v
  obtain ⟨-, hshut, -, -⟩ := s.diskOperation_frame v
  refine ⟨es, he, fun e hm => ?_, hshut⟩
  obtain ⟨g, rfl⟩ | ⟨d, idx, ok, -, rfl⟩ | ⟨d, idx, data, ok, -, -, rfl⟩ := hpath.call_cases hm <;> rfl

/-- No instruction but `CTLSAVE` and `CTLQUIT` makes a call of the control port (R174). -/
theorem exec_noControlCalls {i : Instr} {s t : State} (hs : i ≠ .ctlsave) (hq : i ≠ .ctlquit)
    (h : exec i s = .next t) : s.NoControlCalls t := by
  cases i with
  | conin => cases h; exact s.getChar_noControlCalls
  | dskrd | dskwr | dskinv => cases h; exact s.diskOperation_noControlCalls _
  | ctlsave => exact absurd rfl hs
  | ctlquit => exact absurd rfl hq
  | const | conout => cases h; exact .of_one_call rfl rfl rfl
  | settrk | setsec | setdmal | setdmah | dskstat | dskcnt | setdrv | ctlnop | inunmap | outunmap =>
    cases h; exact .of_same_events rfl rfl

/-- The calls of a save: the primary is saved once, the secondary once if the save comes that far (R171), and no shutdown
is asked for (R172). -/
theorem State.saveAll_calls (s : State) : ∃ es, s.saveAll.events = s.events ++ es ∧
    es.count (.stoSave .primary) = 1 ∧
    es.count (.stoSave .secondary) = (if s.now.available = true ∧ s.now.saveStop = .goesOn then 1 else 0) ∧
    es.count .shutdown = 0 ∧ s.saveAll.shutdownRequested = s.shutdownRequested := by
  obtain ⟨h, e⟩ | ⟨h, -, e⟩ | ⟨h, ha, e⟩ | ⟨-, ha, e⟩ := s.saveAll_cases <;> rw [e]
  · exact ⟨[.stoSave .primary], rfl, rfl, by rw [h]; simp, rfl, rfl⟩
  · exact ⟨[.stoSave .primary, .stoAvail .secondary true], by simp, rfl, by rw [h]; simp, rfl, rfl⟩
  · exact ⟨[.stoSave .primary, .stoAvail .secondary true, .stoSave .secondary], by simp, rfl, by rw [h, ha]; rfl, rfl, rfl⟩
  · exact ⟨[.stoSave .primary, .stoAvail .secondary false], by simp, rfl, by rw [ha]; simp, rfl, rfl⟩

/-- Settles O36: `CTLQUIT` makes the one call, a save makes none, and no other instruction makes a call of the control port. -/
theorem shutdownExactlyOncePerQuit : Obligations.ShutdownExactlyOncePerQuit := by
  intro i s
  by_cases hq : i = .ctlquit
  · subst hq
    exact ⟨_, [.shutdown], exec_ctlquit s, rfl, rfl, by simp⟩
  · by_cases hs : i = .ctlsave
    · subst hs
      obtain ⟨es, he, -, -, hcount, hshut⟩ := s.saveAll_calls
      exact ⟨_, es, exec_ctlsave s, he, hcount, by simp [hshut]⟩
    · obtain ⟨t, ht⟩ := exec_answers_next i s
      obtain ⟨es, he, hno, hshut⟩ := exec_noControlCalls hs hq ht
      exact ⟨t, es, ht, he, by rw [if_neg hq, Event.count_of_isControl rfl hno], by simp [hq, hshut]⟩

/-- Settles O37: the calls of a save are counted, `CTLQUIT` makes only its own, and no other instruction makes a call of the
control port. -/
theorem savesOnlyByControlSave : Obligations.SavesOnlyByControlSave := by
  intro i s
  by_cases hs : i = .ctlsave
  · subst hs
    obtain ⟨es, he, hprim, hsec, -⟩ := s.saveAll_calls
    exact ⟨_, es, exec_ctlsave s, he, hprim, by simpa using hsec⟩
  · simp only [hs, false_and, if_false]
    by_cases hq : i = .ctlquit
    · subst hq
      exact ⟨_, [.shutdown], exec_ctlquit s, rfl, rfl, rfl⟩
    · obtain ⟨t, ht⟩ := exec_answers_next i s
      obtain ⟨es, he, hno, -⟩ := exec_noControlCalls hs hq ht
      exact ⟨t, es, ht, he, Event.count_of_isControl rfl hno, Event.count_of_isControl rfl hno⟩

/-! ## What a save leaves -/

/-- The first two calls of a save: the primary has no unsaved change, and the second call changes nothing. -/
theorem State.saveStore_primary_emit (s : State) (e : Event) : (s.saveStore .primary).emit e =
    { s with primary := { s.primary with unsaved := false }, events := s.events ++ [.stoSave .primary, e] } := by
  simp [State.saveStore, State.setStore, State.emit, Store.save]

/-- A stopped machine stays as it is in every run (log entry 15). -/
theorem Reaches.eq_of_stopped {s t : State} (hs : s.stopped = true) (h : Reaches s t) : t = s := by
  induction h with
  | start => rfl
  | step _ hstep ih =>
    subst ih
    cases hstep.symm.trans (step_of_stopped hs)
    rfl

/-- Settles O51: a save up to each of its two stops, and a stopped machine in any run. -/
theorem saveCanStopBetweenTheStores : Obligations.SaveCanStopBetweenTheStores := by
  refine ⟨fun s h => ?_, fun s h ha => ?_, fun s t hs hr => hr.eq_of_stopped hs⟩
  · rw [exec_ctlsave, State.saveAll_of_beforeQuery h]; rfl
  · rw [exec_ctlsave, State.saveAll_of_beforeSecondSave h ha, State.saveStore_primary_emit]; rfl

/-- Settles O33: the row is decoded by its port and opcode, and a save that does not stop completes, with or without the
secondary. -/
theorem ctlsaveSavesAvailableStores : Obligations.CtlsaveSavesAvailableStores := by
  refine ⟨fun _ h => decode_control_row (v := opSave) h, fun s h => ?_⟩
  rw [exec_ctlsave]
  cases ha : s.now.available with
  | true =>
    have hgo : s.now.saveStop = .goesOn := by simpa [ha] using h
    rw [State.saveAll_of_goesOn hgo ha, State.saveStore_primary_emit]; rfl
  | false =>
    have hquery : s.now.saveStop ≠ .beforeQuery := fun hb => by simp [hb] at h
    rw [State.saveAll_of_unavailable hquery ha, State.saveStore_primary_emit]
    simp only [Bool.false_eq_true, if_false, List.append_nil]
    rfl

/-! ## The other two opcodes -/

/-- Settles O34: the row is decoded by its port and opcode, and the request is an event and the system's condition, no more. -/
theorem ctlquitRaisesRequest : Obligations.CtlquitRaisesRequest :=
  ⟨fun _ h => decode_control_row (v := opQuit) h, exec_ctlquit⟩

/-- Settles O35: the catch-all row is decoded, and the transaction only completes. -/
theorem ctlnopIsIgnored : Obligations.CtlnopIsIgnored :=
  ⟨fun _ => decode_unknown_control, exec_ctlnop⟩

end Sys2Proof.Machine

/-! # The status latch (spec/43_disk_operation.md R144; spec/60_exceptions.md R186) -/

namespace Sys2Proof.Machine

theorem exec_lastok_of_not_isOperation {i : Instr} {s t : State} (ho : i.isOperation = false) (h : exec i s = .next t) :
    t.regs.lastok = s.regs.lastok := by
  obtain ⟨u, hu, -, -, -, -, -, -, hlatch⟩ := eachRegisterHasOneWriter.1 i s
  cases hu.symm.trans h
  exact hlatch ho

/-- No path has a call but a window request and, after a granted one, at most one call of the selected store (R144). -/
theorem State.OperationPath.at_most_one_store_call {s : State} {v : Byte} {es : List Event} {latch : Bool}
    (h : s.OperationPath v es latch) :
    es = [] ∨ (∃ g, es = [.dmaReq s.regs.dma s.geom.sectorSize g]) ∨
    ∃ d idx ok, d.number = s.regs.drvsel.toNat ∧
      (es = [.dmaReq s.regs.dma s.geom.sectorSize true, .stoRead d idx ok] ∨
       ∃ data, es = [.dmaReq s.regs.dma s.geom.sectorSize true, .stoWrite d idx data ok]) := by
  cases h with
  | invalid => exact .inl rfl
  | refused | other => exact .inr (.inl ⟨_, rfl⟩)
  | read d _ _ hnum => exact .inr (.inr ⟨d, _, latch, hnum, .inl rfl⟩)
  | write d _ _ hnum => exact .inr (.inr ⟨d, _, latch, hnum, .inr ⟨_, rfl⟩⟩)

/-- Settles O42: the latch has no other writer (O43), and an operation write takes one of its paths and latches the outcome of the
store call on it. -/
theorem onlyOperationWritesChangeLatch : Obligations.OnlyOperationWritesChangeLatch := by
  intro i s
  cases ho : i.isOperation with
  | true =>
    obtain ⟨v, hv⟩ := exec_of_isOperation ho
    obtain ⟨es, he, hok⟩ := s.diskOperation_outcome v
    obtain ⟨es', he', hpath⟩ := s.diskOperation_path v
    obtain rfl : es = es' := List.append_cancel_left (he.symm.trans he')
    exact ⟨_, es, hv s, he, nofun, fun _ => ⟨hpath.at_most_one_store_call, hok⟩⟩
  | false =>
    obtain ⟨t, ht⟩ := exec_answers_next i s
    obtain ⟨es, he⟩ := exec_events_of_not_isOperation ho ht
    exact ⟨t, es, ht, he, fun _ => exec_lastok_of_not_isOperation ho ht, nofun⟩

end Sys2Proof.Machine

/-! # Reset (spec/70_reset_and_hazards.md R200 to R202) -/

namespace Sys2Proof.Machine

/-- Settles O46: each field of the state after reset is its input, the sampled answer or a constant, by `State.resetWith` itself. -/
theorem resetSamplesDriveCount : Obligations.ResetSamplesDriveCount :=
  fun _ => ⟨rfl, rfl, rfl, rfl, rfl, rfl, rfl, rfl, rfl, rfl⟩

end Sys2Proof.Machine
